-- ==== Sys2Proof/Word.lean ====
section
/-! DEFINITION. The word types of the engine. Every register and every real-valued state element is
32 bits wide (R11, R24): an integer register is a two's complement word, a real value is the bit
pattern of an IEEE 754 binary32. -/
namespace Sys2Proof

/-- A 32-bit word of the register window or of host memory (R65). -/
abbrev Word := BitVec 32

/-- A byte of host memory. -/
abbrev Byte := BitVec 8

/-- The bit pattern of a binary32 value (R11). Its arithmetic stands in Machine/Float.lean. -/
abbrev F32 := BitVec 32

end Sys2Proof
end

