-- ==== Sys2Proof/Config.lean ====
section
/-! DEFINITION. What an implementation fixes and the spec leaves OPEN (R9): constants without a body,
so that no proof can use a value of them. A bound that the spec puts on such a value (a fraction in
[0, 1), a pan in [-1, 1]) is imposed in Machine/Open.lean, through which the machine reads them. -/
namespace Sys2Proof

/-- The two melodic voices (R10). In a UOP code with two instances, `op[0]` is 0 for `arp` and 1 for
`pad` (R88). -/
inductive VoiceId where
  | arp
  | pad
  deriving DecidableEq, Repr

/-- The arithmetic operations that can produce a NaN. -/
inductive FloatOp where
  | add
  | sub
  | mul
  | div
  | sqrt
  | round
  deriving DecidableEq, Repr

/-- `RNG.init : int32 → S` (D27). The state type S is OPEN; the model holds it as a natural number
(log 5). -/
opaque Config.rngInit : BitVec 32 → Nat

/-- `RNG.frac : S → binary32 × S` (D27), before its result is bounded to [0, 1). -/
opaque Config.rngFracRaw : Nat → BitVec 32 × Nat

/-- `INT_IN_RANGE : S → int32 → int32 → int32 × S` (D28), before its result is bounded to [lo, hi]. -/
opaque Config.intInRangeRaw : Nat → BitVec 32 → BitVec 32 → BitVec 32 × Nat

/-- `EXP2 : binary32 → binary32`, of which nothing is assumed (D3). -/
opaque Config.exp2 : BitVec 32 → BitVec 32

/-- `POW : binary32 → binary32 → binary32`, of which nothing is assumed (D3). -/
opaque Config.pow : BitVec 32 → BitVec 32 → BitVec 32

/-- `BPM_EPS` (D30), before it is bounded to be at least 0. -/
opaque Config.bpmEpsRaw : BitVec 32

/-- `ARP_TRANSPOSE` and `PAD_TRANSPOSE`, int32 (D34). -/
opaque Config.transpose : VoiceId → BitVec 32

/-- The attack times of `ARP_ENV` and `PAD_ENV`, in seconds (D36). -/
opaque Config.attack : VoiceId → BitVec 32

/-- The decay times of `ARP_ENV` and `PAD_ENV`, in seconds (D36). -/
opaque Config.decay : VoiceId → BitVec 32

/-- The sustain levels of `ARP_ENV` and `PAD_ENV` (D36). -/
opaque Config.sustain : VoiceId → BitVec 32

/-- The release times of `ARP_ENV` and `PAD_ENV`, in seconds (D36). -/
opaque Config.release : VoiceId → BitVec 32

/-- `ARP_PAN` and `PAD_PAN` (D37), before they are bounded to [-1, 1]. -/
opaque Config.panRaw : VoiceId → BitVec 32

/-- `SHAPE_MIX : brightness → motion → k` (D41), before k is bounded to [0, 1]. -/
opaque Config.shapeMixRaw : BitVec 32 → BitVec 32 → BitVec 32

/-- `PERC_EPS` (D46), before it is bounded to be above 0. -/
opaque Config.percEpsRaw : BitVec 32

/-- `PERC_COEF : binary32 → binary32` (D47). -/
opaque Config.percCoef : BitVec 32 → BitVec 32

/-- `PERC_PROB : density → p` (D50), before p is bounded to [0, 1]. -/
opaque Config.percProbRaw : BitVec 32 → BitVec 32

/-- `BAND_K_LO` (D54). -/
opaque Config.bandKLo : BitVec 32

/-- `BAND_K_HI` (D54). -/
opaque Config.bandKHi : BitVec 32

/-- The bit pattern of the NaN that an operation on two operands produces, before it is bounded to be
a NaN (log 17): IEEE 754 fixes neither its sign nor its payload. -/
opaque Config.nanRaw : FloatOp → BitVec 32 → BitVec 32 → BitVec 32

end Sys2Proof
end

