-- ==== Sys2Proof/Machine/Float.lean ====
section
/-! DEFINITION. IEEE 754 binary32 on bit patterns (R11, R13, R14; the format's behaviour is general
knowledge, I-G7, log 18): round to nearest, ties to even, subnormals kept, one rounding per operation.

Every finite binary32 is an integer number of UNITS of 2^-149. An operation computes its exact result
in units, as a fraction `num / den`, and `roundUnits` narrows it once. The operations are irreducible:
a proof unfolds one by name, and no defeq check unfolds it by accident. -/
namespace Sys2Proof.Machine

/-- The sign bit. -/
def fsign (x : F32) : Bool := x.msb

/-- The 31 bits below the sign: they order the magnitudes of all values but NaNs. -/
def fmag (x : F32) : Nat := x.toNat % 2 ^ 31

/-- The magnitude pattern of ±∞. -/
def infMag : Nat := 0x7F800000

/-- x is a NaN. -/
def isNaN (x : F32) : Bool := infMag < fmag x

/-- x is ±∞. -/
def isInf (x : F32) : Bool := fmag x == infMag

/-- x is neither a NaN nor ±∞. -/
def isFinite (x : F32) : Bool := fmag x < infMag

/-- The value with the given sign and magnitude pattern. -/
def packF32 (neg : Bool) (mag : Nat) : F32 := BitVec.ofNat 32 ((if neg then 2 ^ 31 else 0) + mag)

/-- The magnitude of a finite value in units of 2^-149: the significand shifted by its exponent. -/
def units (x : F32) : Nat :=
  let e := fmag x / 2 ^ 23
  let m := fmag x % 2 ^ 23
  if e = 0 then m else (m + 2 ^ 23) * 2 ^ (e - 1)

/-- The signed value of a finite pattern in units of 2^-149. -/
def unitsInt (x : F32) : Int := if fsign x then -(units x : Int) else (units x : Int)

/-- The magnitude pattern nearest to `num / den` units, ties to even; ∞ above the largest finite
value. In the binade of exponent k the spacing is 2^k units, and the pattern of `m` spacings is
`k · 2^23 + m`, for subnormals (k = 0) as for normal values. -/
def roundUnits (num den : Nat) : Nat :=
  let q := num / den
  let k := if q < 2 ^ 24 then 0 else q.log2 - 23
  let d := den * 2 ^ k
  let m := num / d
  let r := num % d
  let up := d < 2 * r || (2 * r == d && m % 2 == 1)
  min (k * 2 ^ 23 + (if up then m + 1 else m)) infMag

/-- The NaN that an operation produces: its sign and payload are free (log 17). -/
def nanOf (op : FloatOp) (x y : F32) : F32 :=
  if isNaN (Config.nanRaw op x y) then Config.nanRaw op x y else 0x7FC00000#32

/-- The sign bit inverted. -/
def fneg (x : F32) : F32 := x ^^^ 0x80000000#32

/-- `abs(x)`: the sign bit cleared (R14). -/
def fabs (x : F32) : F32 := x &&& 0x7FFFFFFF#32

/-- x + y, neither being a NaN nor both being infinite with opposite signs. -/
def addCore (x y : F32) : F32 :=
  if isInf x then x
  else if isInf y then y
  else
    let n := unitsInt x + unitsInt y
    if n = 0 then packF32 (fsign x && fsign y) 0
    else packF32 (n < 0) (roundUnits n.natAbs 1)

/-- x + y. -/
@[irreducible] def fadd (x y : F32) : F32 :=
  if isNaN x || isNaN y || (isInf x && isInf y && fsign x != fsign y) then nanOf .add x y
  else addCore x y

/-- x − y. -/
@[irreducible] def fsub (x y : F32) : F32 :=
  if isNaN x || isNaN y || (isInf x && isInf y && fsign x == fsign y) then nanOf .sub x y
  else addCore x (fneg y)

/-- x · y. -/
@[irreducible] def fmul (x y : F32) : F32 :=
  let s := fsign x != fsign y
  if isNaN x || isNaN y || (isInf x && fmag y == 0) || (fmag x == 0 && isInf y) then nanOf .mul x y
  else if isInf x || isInf y then packF32 s infMag
  else packF32 s (roundUnits (units x * units y) (2 ^ 149))

/-- x / y. -/
@[irreducible] def fdiv (x y : F32) : F32 :=
  let s := fsign x != fsign y
  if isNaN x || isNaN y || (isInf x && isInf y) || (fmag x == 0 && fmag y == 0) then nanOf .div x y
  else if isInf x || fmag y == 0 then packF32 s infMag
  else if isInf y then packF32 s 0
  else packF32 s (roundUnits (units x * 2 ^ 149) (units y))

/-- The largest r below `r0 + 2^b` with r² ≤ t, found bit by bit from bit b − 1 down. -/
def isqrtFrom (t : Nat) : Nat → Nat → Nat
  | 0, r => r
  | b + 1, r => isqrtFrom t b (if (r + 2 ^ b) * (r + 2 ^ b) ≤ t then r + 2 ^ b else r)

/-- `sqrtf(x)`, correctly rounded (R14, D3). The root is irrational or an integer number of units; a
half unit stands for the part below the unit, far below the rounding position. -/
@[irreducible] def fsqrt (x : F32) : F32 :=
  if isNaN x || (fsign x && fmag x != 0) then nanOf .sqrt x x
  else if isInf x || fmag x == 0 then x
  else
    let t := units x * 2 ^ 149
    let r := isqrtFrom t 214 0
    packF32 false (roundUnits (2 * r + (if r * r == t then 0 else 1)) 2)

/-- `round(x)`: to the nearest integer, half away from zero (R14, D40); the sign is kept. -/
@[irreducible] def fround (x : F32) : F32 :=
  if isNaN x then nanOf .round x x
  else if isInf x then x
  else packF32 (fsign x) (roundUnits ((2 * units x + 2 ^ 149) / 2 ^ 150 * 2 ^ 149) 1)

/-- The order of non-NaN patterns as integers; +0 and −0 are equal. -/
def fkey (x : F32) : Int := if fsign x then -(fmag x : Int) else (fmag x : Int)

/-- x < y, false when an operand is a NaN (R14). -/
def flt (x y : F32) : Bool := !isNaN x && !isNaN y && decide (fkey x < fkey y)

/-- x ≤ y, false when an operand is a NaN; `x ≥ y` is `fle y x` (R14). -/
def fle (x y : F32) : Bool := !isNaN x && !isNaN y && decide (fkey x ≤ fkey y)

/-- `clamp(x, lo, hi)` (R14). -/
def fclamp (x lo hi : F32) : F32 :=
  if flt x lo then lo else if flt hi x then hi else x

/-- `f32(n)` of an unbounded integer (R13, D66). -/
@[irreducible] def fofInt (n : Int) : F32 := packF32 (n < 0) (roundUnits (n.natAbs * 2 ^ 149) 1)

/-- `f32(num / den)`: the binary32 value nearest to a decimal literal (R12). -/
@[irreducible] def fofRatio (num den : Nat) : F32 := packF32 false (roundUnits (num * 2 ^ 149) den)

/-- 0 ≤ x ≤ 1. -/
def inUnit (x : F32) : Bool := fle 0#32 x && fle x (fofInt 1)

/-- `TWO_PI`, the binary32 nearest to 2π (D4). -/
def twoPi : F32 := 0x40C90FDB#32

end Sys2Proof.Machine
end

