-- ==== Sys2Proof/Machine/Open.lean ====
section
/-! DEFINITION. The OPEN parameters (R9) as the machine reads them: each raw constant of Config.lean is
bounded here to the set of values that the spec allows it, so that every allowed value and no other
is possible. After them, the construction constants that R132 and R151 derive from them. -/
namespace Sys2Proof.Machine

/-- `RNG.init(s)` (R101): any 32-bit seed is valid. -/
def rngInit (s : Word) : Nat := Config.rngInit s

/-- u is a legal fraction: 0 ≤ u < 1 (R102). -/
def inFraction (u : F32) : Bool := fle 0#32 u && flt u (fofInt 1)

/-- `RNG.frac(s)`, its result in [0, 1) (R102, D27). -/
def rngFrac (s : Nat) : F32 × Nat :=
  let r := Config.rngFracRaw s
  (if inFraction r.1 then r.1 else 0#32, r.2)

/-- `INT_IN_RANGE(s, lo, hi)`, its result in [lo, hi] when lo ≤ hi (R103, D28). -/
def intInRange (s : Nat) (lo hi : Word) : Word × Nat :=
  let r := Config.intInRangeRaw s lo hi
  (if lo.toInt ≤ hi.toInt ∧ ¬(lo.toInt ≤ r.1.toInt ∧ r.1.toInt ≤ hi.toInt) then lo else r.1, r.2)

/-- `BPM_EPS`, at least 0 (D30). -/
def bpmEps : F32 := if fle 0#32 Config.bpmEpsRaw then Config.bpmEpsRaw else 0#32

/-- `ARP_PAN` and `PAD_PAN`, in [-1, 1] (D37). -/
def pan (v : VoiceId) : F32 :=
  if fle (fofInt (-1)) (Config.panRaw v) && fle (Config.panRaw v) (fofInt 1) then Config.panRaw v
  else 0#32

/-- `SHAPE_MIX(b, m)`, in [0, 1] (D41). -/
def shapeMix (b m : F32) : F32 :=
  if inUnit (Config.shapeMixRaw b m) then Config.shapeMixRaw b m else 0#32

/-- `PERC_EPS`, above 0 (D46). -/
def percEps : F32 := if flt 0#32 Config.percEpsRaw then Config.percEpsRaw else 1#32

/-- `PERC_PROB(density)`, in [0, 1] (D50). -/
def percProb (density : F32) : F32 :=
  if inUnit (Config.percProbRaw density) then Config.percProbRaw density else 0#32

/-- The construction constants of one melodic voice (R40, R132). `decayS` is stored and never read
(C7). -/
structure VoiceCfg where
  attackS : F32
  decayS : F32
  sustain : F32
  releaseS : F32
  pan : F32
  transpose : Word
  deriving DecidableEq, Repr

/-- A voice's constants at a sample rate: the preset's times scaled by `fs` (R132). -/
def voicePreset (fs : F32) (v : VoiceId) : VoiceCfg where
  attackS := fmul (Config.attack v) fs
  decayS := fmul (Config.decay v) fs
  sustain := Config.sustain v
  releaseS := fmul (Config.release v) fs
  pan := Sys2Proof.Machine.pan v
  transpose := Config.transpose v

/-- The percussion decay constant at a sample rate: `POW(0.001, 1.0 / (0.04 · fs))` (R151). -/
def percDecayAt (fs : F32) : F32 :=
  Config.pow (fofRatio 1 1000) (fdiv (fofInt 1) (fmul (fofRatio 4 100) fs))

end Sys2Proof.Machine
end

