-- ==== Sys2Proof/Syntax.lean ====
section
/-! DEFINITION. The engine's commands as syntax: the registers of the host register block (R24), the
two code formats HB16 and UOP (R81, R86), and one constructor of `Instr` per row of
spec/opcode_table.json. -/
namespace Sys2Proof

/-- The 23 registers of the host register block, in the order of their offsets (R24). -/
inductive Reg where
  | ctrl
  | tempo
  | root
  | scale
  | density
  | brightness
  | motion
  | seed
  | enable
  | cfgRate
  | cfgChan
  | rate
  | chan
  | bufBase
  | render
  | reset
  | meter0
  | meter1
  | meter2
  | meter3
  | meter4
  | meter5
  | meter6
  deriving DecidableEq, Repr

/-- A code word as an agent presents it: a host bus command with its data word (R81), or the code of
an internal micro-operation (R86). -/
inductive Code where
  | hb16 (cmd : BitVec 16) (data : BitVec 32)
  | uop (op : BitVec 8)
  deriving DecidableEq, Repr

/-- The rows of spec/opcode_table.json: 23 reads, 23 writes with their 32-bit data word `d`, and 26
micro-operations, whose operands are fixed state elements (R86). -/
inductive Instr where
  /-- RD CTRL (R188). -/
  | rdCtrl
  /-- RD TEMPO (R190). -/
  | rdTempo
  /-- RD ROOT (R192). -/
  | rdRoot
  /-- RD SCALE (R194). -/
  | rdScale
  /-- RD DENSITY (R196). -/
  | rdDensity
  /-- RD BRIGHTNESS (R198). -/
  | rdBrightness
  /-- RD MOTION (R200). -/
  | rdMotion
  /-- RD SEED (R202). -/
  | rdSeed
  /-- RD ENABLE (R204). -/
  | rdEnable
  /-- RD CFG_RATE (R206). -/
  | rdCfgRate
  /-- RD CFG_CHAN (R208). -/
  | rdCfgChan
  /-- RD RATE (R210). -/
  | rdRate
  /-- RD CHAN (R212). -/
  | rdChan
  /-- RD BUF_BASE (R214). -/
  | rdBufBase
  /-- RD RENDER (R216). -/
  | rdRender
  /-- RD RESET (R218). -/
  | rdReset
  /-- RD METER0 (R220). -/
  | rdMeter0
  /-- RD METER1 (R220). -/
  | rdMeter1
  /-- RD METER2 (R220). -/
  | rdMeter2
  /-- RD METER3 (R220). -/
  | rdMeter3
  /-- RD METER4 (R220). -/
  | rdMeter4
  /-- RD METER5 (R220). -/
  | rdMeter5
  /-- RD METER6 (R220). -/
  | rdMeter6
  /-- WR CTRL (R189). -/
  | wrCtrl (d : BitVec 32)
  /-- WR TEMPO (R191). -/
  | wrTempo (d : BitVec 32)
  /-- WR ROOT (R193). -/
  | wrRoot (d : BitVec 32)
  /-- WR SCALE (R195). -/
  | wrScale (d : BitVec 32)
  /-- WR DENSITY (R197). -/
  | wrDensity (d : BitVec 32)
  /-- WR BRIGHTNESS (R199). -/
  | wrBrightness (d : BitVec 32)
  /-- WR MOTION (R201). -/
  | wrMotion (d : BitVec 32)
  /-- WR SEED (R203). -/
  | wrSeed (d : BitVec 32)
  /-- WR ENABLE (R205). -/
  | wrEnable (d : BitVec 32)
  /-- WR CFG_RATE (R207). -/
  | wrCfgRate (d : BitVec 32)
  /-- WR CFG_CHAN (R209). -/
  | wrCfgChan (d : BitVec 32)
  /-- WR RATE (R211). -/
  | wrRate (d : BitVec 32)
  /-- WR CHAN (R213). -/
  | wrChan (d : BitVec 32)
  /-- WR BUF_BASE (R215). -/
  | wrBufBase (d : BitVec 32)
  /-- WR RENDER (R217). -/
  | wrRender (d : BitVec 32)
  /-- WR RESET (R219). -/
  | wrReset (d : BitVec 32)
  /-- WR METER0 (R221). -/
  | wrMeter0 (d : BitVec 32)
  /-- WR METER1 (R221). -/
  | wrMeter1 (d : BitVec 32)
  /-- WR METER2 (R221). -/
  | wrMeter2 (d : BitVec 32)
  /-- WR METER3 (R221). -/
  | wrMeter3 (d : BitVec 32)
  /-- WR METER4 (R221). -/
  | wrMeter4 (d : BitVec 32)
  /-- WR METER5 (R221). -/
  | wrMeter5 (d : BitVec 32)
  /-- WR METER6 (R221). -/
  | wrMeter6 (d : BitVec 32)
  /-- PARAM_REFRESH (R167). -/
  | paramRefresh
  /-- RECONCILE (R168). -/
  | reconcile
  /-- TIMING_RECOMPUTE (R123). -/
  | timingRecompute
  /-- SCALE_REBUILD (R112). -/
  | scaleRebuild
  /-- WALKER_ADVANCE (R113). -/
  | walkerAdvance
  /-- CLOCK_TICK (R124). -/
  | clockTick
  /-- ARP_TRIGGER (R136). -/
  | arpTrigger
  /-- PERC_GATE (R153). -/
  | percGate
  /-- PERC_TRIGGER (R152). -/
  | percTrigger
  /-- PAD_TRIGGER (R137). -/
  | padTrigger
  /-- VOICE_STEP arp (R134). -/
  | voiceStepArp
  /-- VOICE_STEP pad (R134). -/
  | voiceStepPad
  /-- VOICE_TRIGGER arp (R133). -/
  | voiceTriggerArp
  /-- VOICE_TRIGGER pad (R133). -/
  | voiceTriggerPad
  /-- PERC_STEP (R154). -/
  | percStep
  /-- MIX_DELAY (R172). -/
  | mixDelay
  /-- BAND_FOLLOW (R173). -/
  | bandFollow
  /-- FRAME_WRITE (R174). -/
  | frameWrite
  /-- METER_PUBLISH (R176). -/
  | meterPublish
  /-- RNG_INIT (R101). -/
  | rngInit
  /-- RNG_FRACTION (R102). -/
  | rngFraction
  /-- RNG_INT_RANGE (R103). -/
  | rngIntRange
  /-- NOTE_FREQ arp (R131). -/
  | noteFreqArp
  /-- NOTE_FREQ pad (R131). -/
  | noteFreqPad
  /-- LOUDNESS_ACCUM (R175). -/
  | loudnessAccum
  /-- CONSTRUCT (R255). -/
  | construct
  deriving DecidableEq, Repr

end Sys2Proof
end

