-- ==== Sys2Proof/Machine/State.lean ====
section
/-! DEFINITION. The engine's state as plain data (R20 to R54), the reasons a step can stop, and the
state right after power-on reset (R251, R252). Groups that hold fields of the model's own say so. -/
namespace Sys2Proof.Machine

/-- The parameter registers whose NaN raises ParamNaN (R236). -/
inductive ParamReg where
  | tempo
  | density
  | brightness
  | motion
  deriving DecidableEq, Repr

/-- The model faults (R235): the run ends and no later state is specified. -/
inductive Fault where
  /-- Raised by PARAM_REFRESH, by the construction and by WR MOTION on a NaN (R236, R255). Safe: the
  spec gives no value, so the run stops and nothing about a later state can be proved. -/
  | paramNaN (r : ParamReg)
  /-- Raised by NOTE_FREQ on a note whose frequency is ±∞ or NaN (R237). Safe, for the same reason. -/
  | freqNotFinite (v : VoiceId) (n : Int)
  /-- Raised by FRAME_WRITE when the frame's last byte lies above 0xFFFFFFFF; carries the frame's base
  address (R238). Safe, for the same reason. -/
  | bufferWrap (a0 : Nat)
  deriving DecidableEq, Repr

/-- Why a step has no meaning. -/
inductive Refusal where
  /-- Raised by an arm of `exec` without a meaning; every arm has one, so nothing raises it. Safe. -/
  | notModelled (mnemonic : String)
  /-- Raised by the fetch when the micro-operation port is handed a code that R87 does not list: R89
  gives it no behaviour and no agent can issue one (log 2). Safe. -/
  | reservedUop (op : BitVec 8)
  deriving DecidableEq, Repr

/-- CTRL's fields (R25). Its reserved bits read 0 (R188). -/
structure Ctrl where
  hostv : Bool
  busy : Bool
  buserr : Bool
  errcause : BitVec 3
  deriving DecidableEq, Repr

/-- The host register block's storage (R24). RATE and CHAN are `cfg.rate` and `cfg.C` (R35), the
meters stand in `meter`, RESET holds nothing. Hard-wired bits have no storage: `scale` is SCALE[1:0],
`enable` is ENABLE[2:0], `bufBase` is BUF_BASE[31:2]. -/
structure Regs where
  ctrl : Ctrl
  tempo : F32
  root : Word
  scale : BitVec 2
  density : F32
  brightness : F32
  motion : F32
  seed : Word
  enable : BitVec 3
  cfgRate : Word
  cfgChan : Word
  bufBase : BitVec 30
  render : Word
  deriving DecidableEq, Repr

/-- The construction constants (R40). -/
structure Cfg where
  rate : Word
  C : Word
  fs : F32
  percDecay : F32
  arp : VoiceCfg
  pad : VoiceCfg
  deriving DecidableEq, Repr

/-- The event flags and percFire (R41). -/
structure Events where
  ev16 : Bool
  ev8 : Bool
  evPad : Bool
  percFire : Bool
  deriving DecidableEq, Repr

/-- The shadow parameters (R42). -/
structure Shadow where
  bpm : F32
  root : Word
  scale : BitVec 2
  density : F32
  brightness : F32
  motion : F32
  seed : Word
  arpEn : Bool
  percEn : Bool
  padEn : Bool
  deriving DecidableEq, Repr

/-- The reconciliation memory (R43). -/
structure Recon where
  lastBpm : F32
  lastScale : BitVec 2
  deriving DecidableEq, Repr

/-- The generator state `s` (R44; log 5), and the model's own operand and result latches of the
micro-operations RNG_INT_RANGE (`lo`, `hi`, `n`) and RNG_FRACTION (`u`) (log 4). -/
structure Rng where
  s : Nat
  lo : Word
  hi : Word
  n : Word
  u : F32
  deriving DecidableEq, Repr

/-- The timing periods in samples (R45). -/
structure Timing where
  spb : F32
  per16 : F32
  per8 : F32
  perPad : F32
  deriving DecidableEq, Repr

/-- The clock counters (R46). -/
structure Clock where
  c16 : F32
  c8 : F32
  cPad : F32
  deriving DecidableEq, Repr

/-- The scale table and the walker (R47). -/
structure Walk where
  tbl : List Int
  len : Nat
  idx : Nat
  deriving DecidableEq, Repr

/-- A melodic voice (R48). -/
structure Voice where
  ph1 : F32
  ph2 : F32
  freq : F32
  level : F32
  elapsed : F32
  deriving DecidableEq, Repr

/-- The percussion voice (R50). -/
structure Perc where
  env : F32
  lp1 : F32
  lp2 : F32
  deriving DecidableEq, Repr

/-- The frame accumulator `L`, `R` (R51), and the model's own latches of MIX_DELAY's results `yL`,
`yR` (R172; log 25). -/
structure Mix where
  L : F32
  R : F32
  yL : F32
  yR : F32
  deriving DecidableEq, Repr

/-- The two single-sample delay lines (R52). -/
structure Delay where
  L : F32
  R : F32
  deriving DecidableEq, Repr

/-- The band followers (R53). -/
structure Band where
  lo : F32
  hi : F32
  deriving DecidableEq, Repr

/-- The block accumulators (R54). -/
structure Acc where
  sq : F32
  lo : F32
  mid : F32
  hi : F32
  deriving DecidableEq, Repr

/-- The seven meter cells METER0 to METER6 (R39). -/
structure Meters where
  m0 : F32
  m1 : F32
  m2 : F32
  m3 : F32
  m4 : F32
  m5 : F32
  m6 : F32
  deriving DecidableEq, Repr

/-- The phases of a block (R22). -/
inductive Phase where
  | idle
  | refresh
  | reconcile
  | frame
  | publish
  deriving DecidableEq, Repr

/-- The sequencer position (R22). `sub` is the model's own: the next register read of PARAM_REFRESH or
the next meter write of METER_PUBLISH (R186; log 20). -/
structure Seq where
  phase : Phase
  i : Nat
  k : Nat
  sub : Nat
  deriving DecidableEq, Repr

/-- The latched block parameters (R22). -/
structure Block where
  N : Word
  base : Word
  deriving DecidableEq, Repr

/-- The local variables of PARAM_REFRESH (R167), which live across its nine register reads: the
model's own (log 24). -/
structure RefreshRegs where
  hv : Bool
  t : F32
  r : Word
  s : BitVec 2
  d : F32
  bb : F32
  m : F32
  sd : Word
  e : BitVec 3
  deriving DecidableEq, Repr

/-- What happens next in the serial order of R186: an agent presents a code, or the engine takes its
next step. -/
inductive Event where
  | code (c : Code)
  | engine
  deriving DecidableEq, Repr

/-- Host memory: the bytes that have been written, by strictly rising address (R68, R70). What an
unlisted byte holds is not known (log 26). -/
abbrev Memory := List Host.Cell

/-- The whole state. `rdata` (the word the last read returned) and `sched` (the serial order still to
come) are the model's own (logs 3 and 1). -/
structure State where
  reg : Regs
  cfg : Cfg
  ev : Events
  sh : Shadow
  recon : Recon
  rng : Rng
  tim : Timing
  clk : Clock
  walk : Walk
  arp : Voice
  pad : Voice
  perc : Perc
  mix : Mix
  dly : Delay
  band : Band
  acc : Acc
  meter : Meters
  seq : Seq
  blk : Block
  refr : RefreshRegs
  mem : Memory
  rdata : Word
  sched : List Event
  deriving DecidableEq, Repr

/-- A voice with every element 0.0 (R48). -/
def Voice.zero : Voice := ⟨0#32, 0#32, 0#32, 0#32, 0#32⟩

/-- The register block after power-on reset (R24, R251). -/
def Regs.por : Regs where
  ctrl := { hostv := true, busy := false, buserr := false, errcause := 0#3 }
  tempo := 0x42F00000#32
  root := 60#32
  scale := 0#2
  density := 0x3EB33333#32
  brightness := 0x3F000000#32
  motion := 0#32
  seed := 1#32
  enable := 0b111#3
  cfgRate := 48000#32
  cfgChan := 2#32
  bufBase := 0#30
  render := 0#32

/-- The state after power-on reset: the table of R252. What depends on an OPEN parameter is written
with that parameter. -/
def State.reset : State where
  reg := Regs.por
  cfg :=
    { rate := 48000#32, C := 2#32, fs := fofInt 48000, percDecay := percDecayAt (fofInt 48000)
      arp := voicePreset (fofInt 48000) .arp, pad := voicePreset (fofInt 48000) .pad }
  ev := { ev16 := false, ev8 := false, evPad := false, percFire := false }
  sh :=
    { bpm := fofInt 120, root := 60#32, scale := 0#2, density := fofRatio 35 100
      brightness := fofRatio 1 2, motion := 0#32, seed := 1#32
      arpEn := true, percEn := true, padEn := true }
  recon := { lastBpm := fofInt 120, lastScale := 0#2 }
  rng := { s := (intInRange (rngInit 1#32) 0#32 6#32).2, lo := 0#32, hi := 0#32, n := 0#32, u := 0#32 }
  tim := { spb := fofInt 24000, per16 := fofInt 6000, per8 := fofInt 12000, perPad := fofInt 48000 }
  clk := { c16 := 0#32, c8 := 0#32, cPad := 0#32 }
  walk :=
    { tbl := [0, 2, 4, 5, 7, 9, 11], len := 7
      idx := (intInRange (rngInit 1#32) 0#32 6#32).1.toInt.toNat }
  arp := Voice.zero
  pad := Voice.zero
  perc := { env := 0#32, lp1 := 0#32, lp2 := 0#32 }
  mix := { L := 0#32, R := 0#32, yL := 0#32, yR := 0#32 }
  dly := { L := 0#32, R := 0#32 }
  band := { lo := 0#32, hi := 0#32 }
  acc := { sq := 0#32, lo := 0#32, mid := 0#32, hi := 0#32 }
  meter := { m0 := 0#32, m1 := 0#32, m2 := 0#32, m3 := 0#32, m4 := 0#32, m5 := 0#32, m6 := 0#32 }
  seq := { phase := .idle, i := 0, k := 0, sub := 0 }
  blk := { N := 0#32, base := 0#32 }
  refr :=
    { hv := false, t := 0#32, r := 0#32, s := 0#2, d := 0#32, bb := 0#32, m := 0#32
      sd := 0#32, e := 0#3 }
  mem := []
  rdata := 0#32
  sched := []

end Sys2Proof.Machine
end

