-- ==== Sys2Proof/WellFormed.lean ====
section
/-! DEFINITION. Which codes are well formed. An `Instr` cannot be ill formed: its only operand is a
32-bit data word and every pattern of it is accepted (R84, R90). What can be ill formed is a code:
the HB16 checks of R187, and a UOP code that R87 does not list (R89). -/
namespace Sys2Proof

/-- The causes of a refused bus command (R233). -/
inductive BusCause where
  | unmapped
  | misaligned
  | reservedBits
  | renderWhileBusy
  | resetWhileBusy
  deriving DecidableEq, Repr

/-- The ERRCAUSE code of a cause (R233). -/
def BusCause.code (c : BusCause) : BitVec 3 :=
  match c with
  | .unmapped => 1#3
  | .misaligned => 2#3
  | .reservedBits => 3#3
  | .renderWhileBusy => 4#3
  | .resetWhileBusy => 5#3

/-- The RSV bits are 000 (R81). -/
def hb16RsvOk (cmd : BitVec 16) : Bool := cmd.extractLsb' 12 3 == 0#3

/-- The address is word aligned (R63). -/
def hb16Aligned (cmd : BitVec 16) : Bool := cmd.extractLsb' 0 2 == 0#2

/-- The address is at most 0x058, the last register's (R69). -/
def hb16Mapped (cmd : BitVec 16) : Bool := (cmd.extractLsb' 0 12).toNat ≤ 0x058

/-- The UOP codes of R87 as a predicate: the even codes 0x02 to 0x2E but 0x00, and the odd pad
instances 0x17, 0x19 and 0x2B (R97). -/
def uopListed (op : BitVec 8) : Bool :=
  (op.toNat % 2 == 0 && (2 ≤ op.toNat && op.toNat ≤ 0x2E)) ||
    (op == 0x17#8 || op == 0x19#8 || op == 0x2B#8)

/-- A well-formed code: one that names a row of spec/opcode_table.json. -/
def Code.wellFormed (c : Code) : Bool :=
  match c with
  | .hb16 cmd _ => hb16RsvOk cmd && hb16Aligned cmd && hb16Mapped cmd
  | .uop op => uopListed op

end Sys2Proof
end

