-- ==== Sys2Proof/Machine/Ops.lean ====
section
/-! DEFINITION. The named operations over memory, the register block and the generator that the
meanings share. The engine has no exception and no return from one (R231, R242, R243): the one
architectural error record is the bus refusal, `busRefuse`, which returns to nobody and stops
nothing. -/
namespace Sys2Proof.Machine

/-- The outcome of a meaning. -/
abbrev Result := Host.Outcome State Fault Refusal

/-- One operation after another: the second runs only if the first answers a next state. -/
def andThen (r : Result) (f : State → Result) : Result :=
  match r with
  | .next s => f s
  | .fault e => .fault e
  | .refused e => .refused e

/-! ### Host memory -/

/-- The number of byte addresses of host memory (R68). -/
def memSize : Nat := 2 ^ 32

/-- One byte of host memory: nothing for a byte that has not been written (log 26). -/
def Memory.read (m : Memory) (a : Nat) : Option Byte :=
  match m with
  | [] => none
  | c :: rest => if c.1 = a then some c.2 else if a < c.1 then none else Memory.read rest a

/-- One byte written, the addresses kept strictly rising. -/
def Memory.write (m : Memory) (a : Nat) (b : Byte) : Memory :=
  match m with
  | [] => [(a, b)]
  | c :: rest =>
    if c.1 = a then (a, b) :: rest
    else if a < c.1 then (a, b) :: c :: rest
    else c :: Memory.write rest a b

/-- The addresses strictly rise from `lo` on and lie below 2^32. -/
def Memory.wfFrom (lo : Nat) (m : Memory) : Bool :=
  match m with
  | [] => true
  | c :: rest => decide (lo ≤ c.1) && decide (c.1 < memSize) && Memory.wfFrom (c.1 + 1) rest

/-- The canonical form: addresses strictly rising and inside host memory. Every listed byte has a
value, which an unlisted one has not, so equal memories are equal lists. -/
def Memory.wf (m : Memory) : Bool := Memory.wfFrom 0 m

/-- Byte j of a word, little-endian: `w[7:0]` is byte 0 (R61). -/
def byteOf (w : Word) (j : Nat) : Byte := w.extractLsb' (8 * j) 8

/-- `MemWrite(a, 4, w)`: bytes a to a+3, the least significant at a (R61). -/
def Memory.writeWord (m : Memory) (a : Nat) (w : Word) : Memory :=
  Memory.write (Memory.write (Memory.write (Memory.write m a (byteOf w 0)) (a + 1) (byteOf w 1))
    (a + 2) (byteOf w 2)) (a + 3) (byteOf w 3)

/-- The little-endian word at a, where its four bytes have been written (R61). -/
def Memory.readWord (m : Memory) (a : Nat) : Option Word :=
  match Memory.read m a, Memory.read m (a + 1), Memory.read m (a + 2), Memory.read m (a + 3) with
  | some b0, some b1, some b2, some b3 => some (b3 ++ b2 ++ b1 ++ b0)
  | _, _, _, _ => none

/-! ### The bus -/

/-- `BusRefuse(c)`: BUSERR is set, and ERRCAUSE keeps the first cause (R187, R234). -/
def busRefuse (c : BusCause) (s : State) : State :=
  { s with reg := { s.reg with ctrl := { s.reg.ctrl with
      buserr := true
      errcause := if s.reg.ctrl.buserr then s.reg.ctrl.errcause else c.code } } }

/-- A read command's answer: one 32-bit word (R186; log 3). -/
def busReply (w : Word) (s : State) : State := { s with rdata := w }

/-! ### The generator -/

/-- `RNG_INIT(seed)` (R101). -/
def seedRng (seed : Word) (s : State) : State := { s with rng := { s.rng with s := rngInit seed } }

/-- The fraction that the next `RNG_FRACTION()` returns (R102). -/
def drawnFraction (s : State) : F32 := (rngFrac s.rng.s).1

/-- The state after one `RNG_FRACTION()` (R102). -/
def afterFraction (s : State) : State := { s with rng := { s.rng with s := (rngFrac s.rng.s).2 } }

/-- The integer that the next `RNG_INT_RANGE(lo, hi)` returns (R103). -/
def drawnInt (lo hi : Word) (s : State) : Word := (intInRange s.rng.s lo hi).1

/-- The state after one `RNG_INT_RANGE(lo, hi)` (R103). -/
def afterInt (lo hi : Word) (s : State) : State :=
  { s with rng := { s.rng with s := (intInRange s.rng.s lo hi).2 } }

/-! ### The two voice instances -/

/-- `voice[v]` (R48). -/
def State.voice (s : State) (v : VoiceId) : Voice :=
  match v with
  | .arp => s.arp
  | .pad => s.pad

/-- `voice[v] ← x`. -/
def State.setVoice (s : State) (v : VoiceId) (x : Voice) : State :=
  match v with
  | .arp => { s with arp := x }
  | .pad => { s with pad := x }

/-- The construction constants of voice v (R40). -/
def Cfg.voice (c : Cfg) (v : VoiceId) : VoiceCfg :=
  match v with
  | .arp => c.arp
  | .pad => c.pad

/-! ### The meter cells -/

/-- `meter[k]`; k above 6 names no cell and reads as METER6, which no rule does (log 31). -/
def Meters.get (m : Meters) (k : Nat) : F32 :=
  match k with
  | 0 => m.m0
  | 1 => m.m1
  | 2 => m.m2
  | 3 => m.m3
  | 4 => m.m4
  | 5 => m.m5
  | _ => m.m6

/-- `meter[k] ← x`; k above 6 names no cell and writes METER6, which no rule does (log 31). -/
def Meters.set (m : Meters) (k : Nat) (x : F32) : Meters :=
  match k with
  | 0 => { m with m0 := x }
  | 1 => { m with m1 := x }
  | 2 => { m with m2 := x }
  | 3 => { m with m3 := x }
  | 4 => { m with m4 := x }
  | 5 => { m with m5 := x }
  | _ => { m with m6 := x }

end Sys2Proof.Machine
end

