-- ==== Sys2Proof/Machine/Operands.lean ====
section
/-! DEFINITION. The operand forms: how each register's data word is formed and read (R82), the seven
meter reads, and the note offset that NOTE_FREQ takes from the walker (R114). -/
namespace Sys2Proof.Machine

/-- The CTRL word: `{25'b0, ERRCAUSE[2:0], 1'b0, BUSERR, BUSY, HOSTV}` (R188). -/
def ctrlWord (c : Ctrl) : Word :=
  0#25 ++ c.errcause ++ 0#1 ++ BitVec.ofBool c.buserr ++ BitVec.ofBool c.busy ++ BitVec.ofBool c.hostv

/-- A field register read as a word: the bits above the field read 0 (R194, R204). -/
def fieldWord {n : Nat} (f : BitVec n) : Word := f.setWidth 32

/-- SCALE[1:0] of a written word (R195). -/
def scaleField (d : Word) : BitVec 2 := d.extractLsb' 0 2

/-- ENABLE[2:0] of a written word (R205). -/
def enableField (d : Word) : BitVec 3 := d.extractLsb' 0 3

/-- BUF_BASE[31:2] of a written word (R215). -/
def bufBaseField (d : Word) : BitVec 30 := d.extractLsb' 2 30

/-- BUF_BASE as a byte address, bits 1:0 hard-wired 0 (R36). -/
def bufBaseWord (b : BitVec 30) : Word := b ++ 0#2

/-- The note offset: `walk.tbl[walk.idx]` if the table is not empty, else 0 (R114). An index past the
table's end, which no run reaches (R58), has offset 0 (log 31). -/
def noteOffset (w : Walk) : Int := if w.len = 0 then 0 else w.tbl.getD w.idx 0

/-- The note number of voice v, in unbounded integers (R131, D66). -/
def noteNumber (s : State) (v : VoiceId) : Int :=
  s.sh.root.toInt + noteOffset s.walk + (s.cfg.voice v).transpose.toInt

end Sys2Proof.Machine
end

