-- ==== Sys2Proof/Machine/Flags.lean ====
section
/-! DEFINITION. The flag computations: the engine has no condition codes (R41); its flags are the wrap
events of the clock counters (R124), percFire (R153), the shadow enables (R167) and the CTRL status
bits (R25). -/
namespace Sys2Proof.Machine

/-- A counter after its increment of 1.0 (R124). -/
def counterUp (c : F32) : F32 := fadd c (fofInt 1)

/-- The wrap event of a counter: the incremented counter has reached its period (R124). -/
def wraps (c period : F32) : Bool := fle period (counterUp c)

/-- The counter after a tick: at most one period is subtracted (R124). -/
def counterTick (c period : F32) : F32 :=
  if wraps c period then fsub (counterUp c) period else counterUp c

/-- CTRL after a write of d: HOSTV is d[0]; d[2] = 1 clears BUSERR and ERRCAUSE; the other bits are
ignored (R189). -/
def ctrlAfterWrite (c : Ctrl) (d : Word) : Ctrl where
  hostv := d.getLsbD 0
  busy := c.busy
  buserr := if d.getLsbD 2 then false else c.buserr
  errcause := if d.getLsbD 2 then 0#3 else c.errcause

/-- The first of TEMPO, DENSITY, BRIGHTNESS and MOTION that is a NaN, in that order (R167; log 28). -/
def firstNaN (t d bb m : F32) : Option ParamReg :=
  if isNaN t then some .tempo
  else if isNaN d then some .density
  else if isNaN bb then some .brightness
  else if isNaN m then some .motion
  else none

/-- `clamp(x, 0.0, 1.0)` (R167, R201). -/
def clampUnit (x : F32) : F32 := fclamp x 0#32 (fofInt 1)

end Sys2Proof.Machine
end

