-- ==== Sys2Proof/Machine/Clock.lean ====
section
/-! DEFINITION. The rhythmic clock (43_clock.md). -/
namespace Sys2Proof.Machine

/-- The tempo clamped to [20, 300] beats per minute (R123). -/
def clampBpm (bpm : F32) : F32 := fclamp bpm (fofInt 20) (fofInt 300)

/-- The timing periods of a tempo at a sample rate (R123). -/
def periodsOf (fs bpm : F32) : Timing :=
  let spb := fdiv (fmul fs (fofInt 60)) (clampBpm bpm)
  { spb := spb
    per16 := fdiv spb (fofInt 4)
    per8 := fdiv spb (fofInt 2)
    perPad := fmul spb (fofInt 2) }

/-- TIMING_RECOMPUTE of a tempo: the counters are not touched (R123). -/
def timingRecompute (bpm : F32) (s : State) : State := { s with tim := periodsOf s.cfg.fs bpm }

/-- CLOCK_TICK: each counter is incremented, compared and wrapped once (R124). -/
def clockTick (s : State) : State :=
  { s with
    ev := { s.ev with
      ev16 := wraps s.clk.c16 s.tim.per16
      ev8 := wraps s.clk.c8 s.tim.per8
      evPad := wraps s.clk.cPad s.tim.perPad }
    clk :=
      { c16 := counterTick s.clk.c16 s.tim.per16
        c8 := counterTick s.clk.c8 s.tim.per8
        cPad := counterTick s.clk.cPad s.tim.perPad } }

/-- TIMING_RECOMPUTE (R123) of `sh.bpm`. -/
def execTimingRecompute (s : State) : Result := .next (timingRecompute s.sh.bpm s)

/-- CLOCK_TICK (R124). -/
def execClockTick (s : State) : Result := .next (clockTick s)

end Sys2Proof.Machine
end

