-- ==== Sys2Proof/Machine/Percussion.lean ====
section
/-! DEFINITION. The percussion voice (45_percussion.md): trigger, gate, and the step's noise, filter
pair and decay. -/
namespace Sys2Proof.Machine

/-- PERC_TRIGGER: the envelope jumps to 1.0; the filter states keep their values (R152, D51). -/
def percTrigger (s : State) : State := { s with perc := { s.perc with env := fofInt 1 } }

/-- PERC_GATE: one draw u, percFire is u < PERC_PROB(density), and a hit triggers (R153). -/
def percGate (s : State) : State :=
  let fire := flt (drawnFraction s) (percProb s.sh.density)
  let t := { afterFraction s with ev := { s.ev with percFire := fire } }
  if fire then percTrigger t else t

/-- The noise sample of a draw: `2.0 · u − 1.0` (R154, D48). -/
def noiseOf (u : F32) : F32 := fsub (fmul (fofInt 2) u) (fofInt 1)

/-- The corner frequency as a fraction of the sample rate, clamped to [0, 0.25] (R154). -/
def percFrac (fs b : F32) : F32 :=
  let fc := fadd (fofInt 2000)
    (fmul (fofInt 4000) (fadd (fofRatio 2 5) (fmul (fofRatio 3 5) b)))
  fclamp (fdiv fc fs) 0#32 (fofRatio 1 4)

/-- A one-pole stage: `y + a · (x − y)` (R17, R154). -/
def onePole (a x y : F32) : F32 := fadd y (fmul a (fsub x y))

/-- The percussion state after an audible step with filter coefficient a and draw u (R154). -/
def percAdvance (a decay u : F32) (p : Perc) : Perc :=
  let lp1 := onePole a (noiseOf u) p.lp1
  { env := fmul p.env decay, lp1 := lp1, lp2 := onePole a lp1 p.lp2 }

/-- The contribution to each channel: the clamped difference of the two stages, by the envelope
before this step's decay, by 0.6 and by 0.35 (R154, D49). -/
def percOut (env : F32) (p : Perc) : F32 :=
  fmul (fmul (fmul (fclamp (fsub p.lp1 p.lp2) (fofInt (-1)) (fofInt 1)) env) (fofRatio 3 5))
    (fofRatio 35 100)

/-- PERC_STEP: silence, no draw and no change below PERC_EPS; else one noise draw through the filter
pair, added centred to L and R, then the decay (R154, D46). -/
def percStep (s : State) : State :=
  if flt s.perc.env percEps then s
  else
    let a := Config.percCoef (percFrac s.cfg.fs s.sh.brightness)
    let p := percAdvance a s.cfg.percDecay (drawnFraction s) s.perc
    let c := percOut s.perc.env p
    { afterFraction s with
      perc := p
      mix := { s.mix with L := fadd s.mix.L c, R := fadd s.mix.R c } }

/-- PERC_TRIGGER (R152). -/
def execPercTrigger (s : State) : Result := .next (percTrigger s)

/-- PERC_GATE (R153). -/
def execPercGate (s : State) : Result := .next (percGate s)

/-- PERC_STEP (R154). -/
def execPercStep (s : State) : Result := .next (percStep s)

end Sys2Proof.Machine
end

