-- ==== Sys2Proof/Machine/ScaleWalker.lean ====
section
/-! DEFINITION. The scale table and the note walker (42_scale_walker.md). -/
namespace Sys2Proof.Machine

/-- The scale ROM: Ionian, Dorian, MinorPentatonic, HarmonicMinor (R47, R111). -/
def scaleRow (sel : BitVec 2) : List Int :=
  match sel.toNat with
  | 0 => [0, 2, 4, 5, 7, 9, 11]
  | 1 => [0, 2, 3, 5, 7, 9, 10]
  | 2 => [0, 3, 5, 7, 10]
  | _ => [0, 2, 3, 5, 7, 8, 11]

/-- SCALE_REBUILD of a selector: the table is the ROM row, and the walker is re-drawn uniformly from
its indices, with one call of RNG_INT_RANGE(0, len − 1); an empty row would give index 0 (R112). -/
def scaleRebuild (sel : BitVec 2) (s : State) : State :=
  let row := scaleRow sel
  let hi := BitVec.ofNat 32 (row.length - 1)
  if 0 < row.length then
    { afterInt 0#32 hi s with
      walk := { tbl := row, len := row.length, idx := (drawnInt 0#32 hi s).toInt.toNat } }
  else { s with walk := { tbl := row, len := row.length, idx := 0 } }

/-- The walker's index after a step: saturating at both edges of the table (R113). -/
def walkerStep (w : Walk) (step : Int) : Nat := (max 0 (min (w.idx + step) (w.len - 1))).toNat

/-- WALKER_ADVANCE: one call of RNG_INT_RANGE(−1, +1), then the saturating step; an empty table gives
index 0 without a draw (R113). -/
def walkerAdvance (s : State) : State :=
  if s.walk.len = 0 then { s with walk := { s.walk with idx := 0 } }
  else
    { afterInt (-1#32) 1#32 s with
      walk := { s.walk with idx := walkerStep s.walk (drawnInt (-1#32) 1#32 s).toInt } }

/-- SCALE_REBUILD (R112) of `sh.scale`, the selector that every caller passes (log 4). -/
def execScaleRebuild (s : State) : Result := .next (scaleRebuild s.sh.scale s)

/-- WALKER_ADVANCE (R113). -/
def execWalkerAdvance (s : State) : Result := .next (walkerAdvance s)

end Sys2Proof.Machine
end

