-- ==== Sys2Proof/Machine/Renderer.lean ====
section
/-! DEFINITION. The block renderer (46_renderer.md): parameter refresh, reconciliation, feedback delay,
band followers, output, loudness and meters. PARAM_REFRESH and METER_PUBLISH are made of engine steps
between which a bus command may take effect (R186); each such step is a definition here, the meaning of
the row runs them without one in between, and Machine/Fetch.lean runs them one by one (log 20). -/
namespace Sys2Proof.Machine

/-! ### PARAM_REFRESH -/

/-- The block accumulators cleared to +0.0 (R167 step 0). -/
def clearAcc (s : State) : State :=
  { s with acc := { sq := 0#32, lo := 0#32, mid := 0#32, hi := 0#32 } }

/-- One register read of PARAM_REFRESH (R167, D17): 0 HOSTV (after clearing the accumulators), 1 TEMPO,
2 ROOT, 3 SCALE, 4 DENSITY, 5 BRIGHTNESS, 6 MOTION, 7 SEED, 8 ENABLE. -/
def refreshRead (n : Nat) (s : State) : State :=
  match n with
  | 0 => { clearAcc s with refr := { s.refr with hv := s.reg.ctrl.hostv } }
  | 1 => { s with refr := { s.refr with t := s.reg.tempo } }
  | 2 => { s with refr := { s.refr with r := s.reg.root } }
  | 3 => { s with refr := { s.refr with s := s.reg.scale } }
  | 4 => { s with refr := { s.refr with d := s.reg.density } }
  | 5 => { s with refr := { s.refr with bb := s.reg.brightness } }
  | 6 => { s with refr := { s.refr with m := s.reg.motion } }
  | 7 => { s with refr := { s.refr with sd := s.reg.seed } }
  | _ => { s with refr := { s.refr with e := s.reg.enable } }

/-- The shadow of a set of read values: density, brightness and motion clamped to [0, 1], tempo raw
(R167, D26). -/
def shadowOf (f : RefreshRegs) : Shadow where
  bpm := f.t
  root := f.r
  scale := f.s
  density := clampUnit f.d
  brightness := clampUnit f.bb
  motion := clampUnit f.m
  seed := f.sd
  arpEn := f.e.getLsbD 0
  percEn := f.e.getLsbD 1
  padEn := f.e.getLsbD 2

/-- The shadow update after the reads: ParamNaN on a NaN; RNG_INIT only if the seed changed (R167,
R236, D25). -/
def refreshApply (s : State) : Result :=
  match firstNaN s.refr.t s.refr.d s.refr.bb s.refr.m with
  | some r => .fault (.paramNaN r)
  | none =>
    .next { (if s.refr.sd ≠ s.sh.seed then seedRng s.refr.sd s else s) with sh := shadowOf s.refr }

/-- The eight reads after HOSTV (R167). -/
def refreshReads (s : State) : State :=
  refreshRead 8 (refreshRead 7 (refreshRead 6 (refreshRead 5 (refreshRead 4 (refreshRead 3
    (refreshRead 2 (refreshRead 1 s)))))))

/-- PARAM_REFRESH (R167): with HOSTV = 0 only the accumulators are cleared (D24). -/
def execParamRefresh (s : State) : Result :=
  if s.reg.ctrl.hostv then refreshApply (refreshReads (refreshRead 0 s))
  else .next (refreshRead 0 s)

/-! ### RECONCILE -/

/-- The raw tempo has moved by more than BPM_EPS from the last recomputed one (R168, D30). -/
def tempoMoved (s : State) : Bool := flt bpmEps (fabs (fsub s.sh.bpm s.recon.lastBpm))

/-- The timing half of RECONCILE (R168). -/
def reconcileTiming (s : State) : State :=
  if tempoMoved s then
    { timingRecompute s.sh.bpm s with recon := { s.recon with lastBpm := s.sh.bpm } }
  else s

/-- The scale half of RECONCILE (R168). -/
def reconcileScale (s : State) : State :=
  if s.sh.scale ≠ s.recon.lastScale then
    { scaleRebuild s.sh.scale s with recon := { s.recon with lastScale := s.sh.scale } }
  else s

/-- RECONCILE: timing first, then scale (R168, D31). -/
def execReconcile (s : State) : Result := .next (reconcileScale (reconcileTiming s))

/-! ### Mixer, bands, loudness -/

/-- The feedback gain: `0.12 + 0.25 · b` (R172). -/
def delayGain (b : F32) : F32 := fadd (fofRatio 12 100) (fmul (fofRatio 1 4) b)

/-- MIX_DELAY: each delay line is fed its own effected signal (R172). -/
def execMixDelay (s : State) : Result :=
  let g := delayGain s.sh.brightness
  let yL := fadd s.mix.L (fmul g s.dly.L)
  let yR := fadd s.mix.R (fmul g s.dly.R)
  .next { s with dly := { L := yL, R := yR }, mix := { s.mix with yL := yL, yR := yR } }

/-- The mono signal of the band splitter: `(yL + yR) · 0.5` (R173). -/
def monoOf (m : Mix) : F32 := fmul (fadd m.yL m.yR) (fofRatio 1 2)

/-- BAND_FOLLOW: two one-pole followers, and the magnitudes of the three bands (R173). -/
def execBandFollow (s : State) : Result :=
  let mono := monoOf s.mix
  let lo := onePole Config.bandKLo mono s.band.lo
  let hi := onePole Config.bandKHi mono s.band.hi
  .next { s with
    band := { lo := lo, hi := hi }
    acc := { s.acc with
      lo := fadd s.acc.lo (fabs lo)
      mid := fadd s.acc.mid (fabs (fsub hi lo))
      hi := fadd s.acc.hi (fabs (fsub mono hi)) } }

/-- LOUDNESS_ACCUM: both squares, left then right (R175). -/
def execLoudnessAccum (s : State) : Result :=
  .next { s with acc := { s.acc with
    sq := fadd (fadd s.acc.sq (fmul s.mix.yL s.mix.yL)) (fmul s.mix.yR s.mix.yR) } }

/-! ### FRAME_WRITE -/

/-- The byte address of the current frame's first word, in unbounded integers (R174). -/
def frameAddr (s : State) : Nat := s.blk.base.toNat + 4 * (s.seq.i * s.cfg.C.toNat)

/-- The number of words the frame writes: min(C, 2) (R174). -/
def frameWords (s : State) : Nat := min s.cfg.C.toNat 2

/-- The memory after the frame's word writes: yL at index 0 and, unless the engine is mono, yR at
index 1 (R174, D20). -/
def frameMem (s : State) : Memory :=
  let m := Memory.writeWord s.mem (frameAddr s) s.mix.yL
  if 2 ≤ s.cfg.C.toNat then Memory.writeWord m (frameAddr s + 4) s.mix.yR else m

/-- FRAME_WRITE: BufferWrap where the frame's last byte would lie above 0xFFFFFFFF (R174, R238). -/
def execFrameWrite (s : State) : Result :=
  if memSize < frameAddr s + 4 * frameWords s then .fault (.bufferWrap (frameAddr s))
  else .next { s with mem := frameMem s }

/-! ### METER_PUBLISH -/

/-- The block value v[k] (R176): the block RMS, the three envelopes, the three band means. -/
def blockValue (k : Nat) (s : State) : F32 :=
  match k with
  | 0 => fsqrt (fdiv s.acc.sq (fofInt (2 * (s.blk.N.toNat : Int))))
  | 1 => s.arp.level
  | 2 => s.pad.level
  | 3 => s.perc.env
  | 4 => fdiv s.acc.lo (fofInt s.blk.N.toNat)
  | 5 => fdiv s.acc.mid (fofInt s.blk.N.toNat)
  | _ => fdiv s.acc.hi (fofInt s.blk.N.toNat)

/-- The exponential smoothing of a meter: `m + 0.2 · (v − m)` (R176). -/
def smooth (m v : F32) : F32 := fadd m (fmul (fofRatio 1 5) (fsub v m))

/-- One meter write of METER_PUBLISH (R176, D56). -/
def publishMeter (k : Nat) (s : State) : State :=
  { s with meter := s.meter.set k (smooth (s.meter.get k) (blockValue k s)) }

/-- The end of METER_PUBLISH: RENDER becomes the frame count and BUSY becomes 0 (R176, D16). -/
def publishDone (s : State) : State :=
  { s with reg := { s.reg with render := s.blk.N, ctrl := { s.reg.ctrl with busy := false } } }

/-- The seven meter writes, METER0 to METER6 (R176). -/
def publishMeters (s : State) : State :=
  publishMeter 6 (publishMeter 5 (publishMeter 4 (publishMeter 3 (publishMeter 2
    (publishMeter 1 (publishMeter 0 s))))))

/-- METER_PUBLISH (R176). -/
def execMeterPublish (s : State) : Result := .next (publishDone (publishMeters s))

end Sys2Proof.Machine
end

