-- ==== Sys2Proof/Machine/Construct.lean ====
section
/-! DEFINITION. The construction sequence (R255), run by power-on reset and by the RESET command as one
engine step. -/
namespace Sys2Proof.Machine

/-- The effective sample rate: a CFG_RATE that is not positive gives 48000 (R255, D21). -/
def effectiveRate (d : Word) : Word := if 0 < d.toInt then d else 48000#32

/-- The effective channel count: a CFG_CHAN that is not positive gives 2 (R255, D21). -/
def effectiveChan (d : Word) : Word := if 0 < d.toInt then d else 2#32

/-- The construction constants of a rate and a channel count (R255 steps 1 and 2). -/
def cfgOf (rate chan : Word) : Cfg where
  rate := rate
  C := chan
  fs := fofInt rate.toInt
  percDecay := percDecayAt (fofInt rate.toInt)
  arp := voicePreset (fofInt rate.toInt) .arp
  pad := voicePreset (fofInt rate.toInt) .pad

/-- The values that the unconditional refresh reads; HOSTV is not tested (R255 step 4). -/
def readParams (g : Regs) : RefreshRegs where
  hv := g.ctrl.hostv
  t := g.tempo
  r := g.root
  s := g.scale
  d := g.density
  bb := g.brightness
  m := g.motion
  sd := g.seed
  e := g.enable

/-- Steps 1 to 3 of the construction: the configuration is latched and every engine-internal element
takes its value after reset (R254, R255). Host memory, the last read's answer and the commands still
to come are not the engine's. The model's own latches take their reset values too (log 29). -/
def zeroDatapath (s : State) : State :=
  { State.reset with
    reg := { s.reg with render := 0#32 }
    cfg := cfgOf (effectiveRate s.reg.cfgRate) (effectiveChan s.reg.cfgChan)
    mem := s.mem
    rdata := s.rdata
    sched := s.sched }

/-- Steps 4 to 8 of the construction, once the parameters hold no NaN: shadow, generator, timing, scale
and walker, BUSY (R255). -/
def constructTail (s : State) : State :=
  let sh := shadowOf (readParams s.reg)
  let s1 := seedRng sh.seed { s with sh := sh }
  let s2 := scaleRebuild sh.scale (timingRecompute sh.bpm s1)
  { s2 with
    recon := { lastBpm := sh.bpm, lastScale := sh.scale }
    reg := { s2.reg with ctrl := { s2.reg.ctrl with busy := false } } }

/-- The construction sequence (R255): ParamNaN where a parameter register holds a NaN. -/
def construct (s : State) : Result :=
  match firstNaN s.reg.tempo s.reg.density s.reg.brightness s.reg.motion with
  | some r => .fault (.paramNaN r)
  | none => .next (constructTail (zeroDatapath s))

/-- CONSTRUCT (R255). -/
def execConstruct (s : State) : Result := construct s

end Sys2Proof.Machine
end

