-- ==== Sys2Proof/Machine/HostBus.lean ====
section
/-! DEFINITION. The meanings of the 46 host bus commands (47_host_interface.md). A read answers one word
and has no side effect; a write returns nothing. -/
namespace Sys2Proof.Machine

/-- The latched start of a block of N frames: `blk.N`, `blk.base`, BUSY and the phase (R166, R217). -/
def startBlock (n : Word) (s : State) : State :=
  { s with
    reg := { s.reg with ctrl := { s.reg.ctrl with busy := true } }
    blk := { N := n, base := bufBaseWord s.reg.bufBase }
    seq := { phase := .refresh, i := 0, k := 0, sub := 0 } }

/-! ### Reads -/

/-- RD CTRL: the CTRL word (R188). -/
def execRdCtrl (s : State) : Result := .next (busReply (ctrlWord s.reg.ctrl) s)

/-- RD TEMPO: the stored word (R190). -/
def execRdTempo (s : State) : Result := .next (busReply s.reg.tempo s)

/-- RD ROOT: the stored word (R192). -/
def execRdRoot (s : State) : Result := .next (busReply s.reg.root s)

/-- RD SCALE: the two-bit field (R194). -/
def execRdScale (s : State) : Result := .next (busReply (fieldWord s.reg.scale) s)

/-- RD DENSITY: the stored word (R196). -/
def execRdDensity (s : State) : Result := .next (busReply s.reg.density s)

/-- RD BRIGHTNESS: the stored word (R198). -/
def execRdBrightness (s : State) : Result := .next (busReply s.reg.brightness s)

/-- RD MOTION: the stored word (R200). -/
def execRdMotion (s : State) : Result := .next (busReply s.reg.motion s)

/-- RD SEED: the stored word (R202). -/
def execRdSeed (s : State) : Result := .next (busReply s.reg.seed s)

/-- RD ENABLE: the three-bit field (R204). -/
def execRdEnable (s : State) : Result := .next (busReply (fieldWord s.reg.enable) s)

/-- RD CFG_RATE: the stored word (R206). -/
def execRdCfgRate (s : State) : Result := .next (busReply s.reg.cfgRate s)

/-- RD CFG_CHAN: the stored word (R208). -/
def execRdCfgChan (s : State) : Result := .next (busReply s.reg.cfgChan s)

/-- RD RATE: the effective sample rate (R210). -/
def execRdRate (s : State) : Result := .next (busReply s.cfg.rate s)

/-- RD CHAN: the effective channel count (R212). -/
def execRdChan (s : State) : Result := .next (busReply s.cfg.C s)

/-- RD BUF_BASE: the stored base, bits 1:0 zero (R214). -/
def execRdBufBase (s : State) : Result := .next (busReply (bufBaseWord s.reg.bufBase) s)

/-- RD RENDER: the frame count of the last completed block (R216). -/
def execRdRender (s : State) : Result := .next (busReply s.reg.render s)

/-- RD RESET: zero (R218). -/
def execRdReset (s : State) : Result := .next (busReply 0#32 s)

/-- RD METER0: the meter cell (R220). -/
def execRdMeter0 (s : State) : Result := .next (busReply s.meter.m0 s)

/-- RD METER1: the meter cell (R220). -/
def execRdMeter1 (s : State) : Result := .next (busReply s.meter.m1 s)

/-- RD METER2: the meter cell (R220). -/
def execRdMeter2 (s : State) : Result := .next (busReply s.meter.m2 s)

/-- RD METER3: the meter cell (R220). -/
def execRdMeter3 (s : State) : Result := .next (busReply s.meter.m3 s)

/-- RD METER4: the meter cell (R220). -/
def execRdMeter4 (s : State) : Result := .next (busReply s.meter.m4 s)

/-- RD METER5: the meter cell (R220). -/
def execRdMeter5 (s : State) : Result := .next (busReply s.meter.m5 s)

/-- RD METER6: the meter cell (R220). -/
def execRdMeter6 (s : State) : Result := .next (busReply s.meter.m6 s)

/-! ### Writes -/

/-- WR CTRL: HOSTV, and write 1 to clear BUSERR with ERRCAUSE (R189). -/
def execWrCtrl (d : Word) (s : State) : Result :=
  .next { s with reg := { s.reg with ctrl := ctrlAfterWrite s.reg.ctrl d } }

/-- WR TEMPO: any pattern is stored (R191). -/
def execWrTempo (d : Word) (s : State) : Result :=
  .next { s with reg := { s.reg with tempo := d } }

/-- WR ROOT: any int32 is stored (R193). -/
def execWrRoot (d : Word) (s : State) : Result :=
  .next { s with reg := { s.reg with root := d } }

/-- WR SCALE: bits 1:0 are stored, the rest ignored (R195). -/
def execWrScale (d : Word) (s : State) : Result :=
  .next { s with reg := { s.reg with scale := scaleField d } }

/-- WR DENSITY: any pattern is stored (R197). -/
def execWrDensity (d : Word) (s : State) : Result :=
  .next { s with reg := { s.reg with density := d } }

/-- WR BRIGHTNESS: any pattern is stored (R199). -/
def execWrBrightness (d : Word) (s : State) : Result :=
  .next { s with reg := { s.reg with brightness := d } }

/-- WR MOTION: the value clamped to [0, 1]; a NaN raises ParamNaN (R201). -/
def execWrMotion (d : Word) (s : State) : Result :=
  if isNaN d then .fault (.paramNaN .motion)
  else .next { s with reg := { s.reg with motion := clampUnit d } }

/-- WR SEED: any int32 is stored, for the next refresh (R203). -/
def execWrSeed (d : Word) (s : State) : Result :=
  .next { s with reg := { s.reg with seed := d } }

/-- WR ENABLE: bits 2:0 are stored, the rest ignored (R205). -/
def execWrEnable (d : Word) (s : State) : Result :=
  .next { s with reg := { s.reg with enable := enableField d } }

/-- WR CFG_RATE: stored for the next construction (R207). -/
def execWrCfgRate (d : Word) (s : State) : Result :=
  .next { s with reg := { s.reg with cfgRate := d } }

/-- WR CFG_CHAN: stored for the next construction (R209). -/
def execWrCfgChan (d : Word) (s : State) : Result :=
  .next { s with reg := { s.reg with cfgChan := d } }

/-- WR RATE: read-only: nothing changes and no refusal is recorded (R211). -/
def execWrRate (_d : Word) (s : State) : Result :=
  .next s

/-- WR CHAN: read-only: nothing changes and no refusal is recorded (R213). -/
def execWrChan (_d : Word) (s : State) : Result :=
  .next s

/-- WR BUF_BASE: bits 31:2 are stored; a running block keeps its base (R215). -/
def execWrBufBase (d : Word) (s : State) : Result :=
  .next { s with reg := { s.reg with bufBase := bufBaseField d } }

/-- WR RENDER: refused with cause 4 while BUSY; N = 0 only clears the read-back; else a block starts (R217). -/
def execWrRender (d : Word) (s : State) : Result :=
  if s.reg.ctrl.busy then .next (busRefuse .renderWhileBusy s)
  else if d = 0#32 then .next { s with reg := { s.reg with render := 0#32 } }
  else .next (startBlock d s)

/-- WR RESET: refused with cause 5 while BUSY; else the construction sequence; the data word is ignored (R219). -/
def execWrReset (_d : Word) (s : State) : Result :=
  if s.reg.ctrl.busy then .next (busRefuse .resetWhileBusy s) else construct s

/-- WR METER0: read-only: nothing changes and no refusal is recorded (R221). -/
def execWrMeter0 (_d : Word) (s : State) : Result :=
  .next s

/-- WR METER1: read-only: nothing changes and no refusal is recorded (R221). -/
def execWrMeter1 (_d : Word) (s : State) : Result :=
  .next s

/-- WR METER2: read-only: nothing changes and no refusal is recorded (R221). -/
def execWrMeter2 (_d : Word) (s : State) : Result :=
  .next s

/-- WR METER3: read-only: nothing changes and no refusal is recorded (R221). -/
def execWrMeter3 (_d : Word) (s : State) : Result :=
  .next s

/-- WR METER4: read-only: nothing changes and no refusal is recorded (R221). -/
def execWrMeter4 (_d : Word) (s : State) : Result :=
  .next s

/-- WR METER5: read-only: nothing changes and no refusal is recorded (R221). -/
def execWrMeter5 (_d : Word) (s : State) : Result :=
  .next s

/-- WR METER6: read-only: nothing changes and no refusal is recorded (R221). -/
def execWrMeter6 (_d : Word) (s : State) : Result :=
  .next s

end Sys2Proof.Machine
end

