-- ==== Sys2Proof/Machine/Rng.lean ====
section
/-! DEFINITION. The micro-operations of the deterministic generator (41_rng.md). A micro-operation has
no operand field (R86): RNG_INIT takes the shadow seed, RNG_INT_RANGE the latches `rng.lo` and
`rng.hi`; the results stand in `rng.u` and `rng.n` (log 4). -/
namespace Sys2Proof.Machine

/-- RNG_INIT (R101) of `sh.seed`, the seed that both its callers pass. -/
def execRngInit (s : State) : Result := .next (seedRng s.sh.seed s)

/-- RNG_FRACTION (R102): one draw. -/
def execRngFraction (s : State) : Result :=
  .next { s with rng := { s.rng with s := (rngFrac s.rng.s).2, u := drawnFraction s } }

/-- RNG_INT_RANGE (R103) of the latched lo and hi. -/
def execRngIntRange (s : State) : Result :=
  .next { s with rng := { s.rng with
      s := (intInRange s.rng.s s.rng.lo s.rng.hi).2, n := drawnInt s.rng.lo s.rng.hi s } }

end Sys2Proof.Machine
end

