-- ==== Sys2Proof/Machine/Voice.lean ====
section
/-! DEFINITION. The two melodic voices (44_voice.md): note frequency, trigger, and the step's
oscillator pair, envelope, tone shaping, soft clip and pan, each a function of its own. -/
namespace Sys2Proof.Machine

/-- The frequency of note n: `440.0 · EXP2(f32(n − 69) / 12.0)` (R131). -/
def noteFrequency (n : Int) : F32 :=
  fmul (fofInt 440) (Config.exp2 (fdiv (fofInt (n - 69)) (fofInt 12)))

/-- NOTE_FREQ v: the frequency of the current note, a fault where it is ±∞ or NaN (R131, R237). -/
def noteFreq (v : VoiceId) (s : State) : Result :=
  let n := noteNumber s v
  let f := noteFrequency n
  if isFinite f then .next (s.setVoice v { s.voice v with freq := f })
  else .fault (.freqNotFinite v n)

/-- VOICE_TRIGGER v: the envelope jumps to 1.0 and its time restarts; only the pad voice resets its
phases (R133, C3). -/
def voiceTrigger (v : VoiceId) (s : State) : State :=
  let x := { s.voice v with level := fofInt 1, elapsed := 0#32 }
  s.setVoice v
    (match v with
    | .arp => x
    | .pad => { x with ph1 := 0#32, ph2 := 0#32 })

/-- The detune above the primary, in cents: `10.0 + 60.0 · b` (R134). -/
def detuneCents (b : F32) : F32 := fadd (fofInt 10) (fmul (fofInt 60) b)

/-- The frequency ratio of the detuned oscillator: `EXP2(cents / 1200.0)` (R134, D38). -/
def detuneRatio (b : F32) : F32 := Config.exp2 (fdiv (detuneCents b) (fofInt 1200))

/-- The phase increment per sample: `(TWO_PI · f) / fs` (R134). -/
def phaseInc (f fs : F32) : F32 := fdiv (fmul twoPi f) fs

/-- A phase advanced by an increment, with at most one subtraction of TWO_PI (R134, D39). -/
def phaseStep (ph inc : F32) : F32 :=
  let p := fadd ph inc
  if fle twoPi p then fsub p twoPi else p

/-- The bipolar saw of a phase: `2.0 · (p − round(p))`, p = phase / TWO_PI (R134, D40). -/
def saw (ph : F32) : F32 :=
  let p := fdiv ph twoPi
  fmul (fofInt 2) (fsub p (fround p))

/-- The envelope's target: 1.0 in the attack, else the sustain level (R134). -/
def envTarget (c : VoiceCfg) (elapsed : F32) : F32 :=
  if flt elapsed c.attackS then fofInt 1 else c.sustain

/-- The approach rate: `0.001 + 0.007 · b` (R134). -/
def envRate (b : F32) : F32 := fadd (fofRatio 1 1000) (fmul (fofRatio 7 1000) b)

/-- The unconditional release factor: `1.0 − 1.0 / releaseS` (R134). -/
def releaseFactor (c : VoiceCfg) : F32 := fsub (fofInt 1) (fdiv (fofInt 1) c.releaseS)

/-- The envelope level after a step whose elapsed time is already advanced (R134). -/
def envLevel (c : VoiceCfg) (b elapsed level : F32) : F32 :=
  fmul (fadd level (fmul (envRate b) (fsub (envTarget c elapsed) level))) (releaseFactor c)

/-- A voice after its step at sample rate fs, brightness b and detune ratio (R134): the oscillator pair
and the envelope. -/
def voiceAdvance (fs b ratio : F32) (c : VoiceCfg) (x : Voice) : Voice :=
  { x with
    ph1 := phaseStep x.ph1 (phaseInc x.freq fs)
    ph2 := phaseStep x.ph2 (phaseInc (fmul x.freq ratio) fs)
    elapsed := fadd x.elapsed (fofInt 1)
    level := envLevel c b (fadd x.elapsed (fofInt 1)) x.level }

/-- The average of the two saws (R134). -/
def rawWave (x : Voice) : F32 := fmul (fadd (saw x.ph1) (saw x.ph2)) (fofRatio 1 2)

/-- The blend of a wave with its rectified version by k (R134, D41). -/
def shapeWave (k raw : F32) : F32 :=
  fadd (fmul (fsub (fofInt 1) k) raw) (fmul k (fabs raw))

/-- The clamp to [−1, 1] followed by the cubic soft clip `x − ((x · x) · x) / 3.0` (R134, D42). -/
def softClip (w : F32) : F32 :=
  let x := fclamp w (fofInt (-1)) (fofInt 1)
  fsub x (fdiv (fmul (fmul x x) x) (fofInt 3))

/-- Half a voice's output: `((y · level) · 0.25) · 0.5`, y the clipped shaped wave (R134). -/
def halfOut (k : F32) (x : Voice) : F32 :=
  fmul (fmul (fmul (softClip (shapeWave k (rawWave x))) x.level) (fofRatio 1 4)) (fofRatio 1 2)

/-- The linear pan of half an output into the frame accumulator (R134). -/
def panInto (h p : F32) (m : Mix) : Mix :=
  { m with
    L := fadd m.L (fmul h (fsub (fofInt 1) p))
    R := fadd m.R (fmul h (fadd (fofInt 1) p)) }

/-- VOICE_STEP v: the voice advances, and its new output is added to L and R (R134, D43). -/
def voiceStep (v : VoiceId) (s : State) : State :=
  let c := s.cfg.voice v
  let b := s.sh.brightness
  let x := voiceAdvance s.cfg.fs b (detuneRatio b) c (s.voice v)
  { s.setVoice v x with mix := panInto (halfOut (shapeMix b s.sh.motion) x) c.pan s.mix }

/-- NOTE_FREQ arp (R131). -/
def execNoteFreqArp (s : State) : Result := noteFreq .arp s

/-- NOTE_FREQ pad (R131). -/
def execNoteFreqPad (s : State) : Result := noteFreq .pad s

/-- VOICE_TRIGGER arp (R133). -/
def execVoiceTriggerArp (s : State) : Result := .next (voiceTrigger .arp s)

/-- VOICE_TRIGGER pad (R133). -/
def execVoiceTriggerPad (s : State) : Result := .next (voiceTrigger .pad s)

/-- VOICE_STEP arp (R134). -/
def execVoiceStepArp (s : State) : Result := .next (voiceStep .arp s)

/-- VOICE_STEP pad (R134). -/
def execVoiceStepPad (s : State) : Result := .next (voiceStep .pad s)

/-- ARP_TRIGGER: WALKER_ADVANCE, NOTE_FREQ arp, VOICE_TRIGGER arp (R136). -/
def execArpTrigger (s : State) : Result :=
  andThen (noteFreq .arp (walkerAdvance s)) fun t => .next (voiceTrigger .arp t)

/-- PAD_TRIGGER: NOTE_FREQ pad, VOICE_TRIGGER pad; the walker is read, not advanced (R137). -/
def execPadTrigger (s : State) : Result :=
  andThen (noteFreq .pad s) fun t => .next (voiceTrigger .pad t)

end Sys2Proof.Machine
end

