-- ==== Sys2Proof/Machine/Dispatch.lean ====
section
/-! DEFINITION. The meaning of every instruction: one arm per constructor of Instr. -/
namespace Sys2Proof.Machine

def exec (i : Instr) (s : State) : Host.Outcome State Fault Refusal :=
  match i with
  | .rdCtrl => Sys2Proof.Machine.execRdCtrl s
  | .rdTempo => Sys2Proof.Machine.execRdTempo s
  | .rdRoot => Sys2Proof.Machine.execRdRoot s
  | .rdScale => Sys2Proof.Machine.execRdScale s
  | .rdDensity => Sys2Proof.Machine.execRdDensity s
  | .rdBrightness => Sys2Proof.Machine.execRdBrightness s
  | .rdMotion => Sys2Proof.Machine.execRdMotion s
  | .rdSeed => Sys2Proof.Machine.execRdSeed s
  | .rdEnable => Sys2Proof.Machine.execRdEnable s
  | .rdCfgRate => Sys2Proof.Machine.execRdCfgRate s
  | .rdCfgChan => Sys2Proof.Machine.execRdCfgChan s
  | .rdRate => Sys2Proof.Machine.execRdRate s
  | .rdChan => Sys2Proof.Machine.execRdChan s
  | .rdBufBase => Sys2Proof.Machine.execRdBufBase s
  | .rdRender => Sys2Proof.Machine.execRdRender s
  | .rdReset => Sys2Proof.Machine.execRdReset s
  | .rdMeter0 => Sys2Proof.Machine.execRdMeter0 s
  | .rdMeter1 => Sys2Proof.Machine.execRdMeter1 s
  | .rdMeter2 => Sys2Proof.Machine.execRdMeter2 s
  | .rdMeter3 => Sys2Proof.Machine.execRdMeter3 s
  | .rdMeter4 => Sys2Proof.Machine.execRdMeter4 s
  | .rdMeter5 => Sys2Proof.Machine.execRdMeter5 s
  | .rdMeter6 => Sys2Proof.Machine.execRdMeter6 s
  | .wrCtrl d => Sys2Proof.Machine.execWrCtrl d s
  | .wrTempo d => Sys2Proof.Machine.execWrTempo d s
  | .wrRoot d => Sys2Proof.Machine.execWrRoot d s
  | .wrScale d => Sys2Proof.Machine.execWrScale d s
  | .wrDensity d => Sys2Proof.Machine.execWrDensity d s
  | .wrBrightness d => Sys2Proof.Machine.execWrBrightness d s
  | .wrMotion d => Sys2Proof.Machine.execWrMotion d s
  | .wrSeed d => Sys2Proof.Machine.execWrSeed d s
  | .wrEnable d => Sys2Proof.Machine.execWrEnable d s
  | .wrCfgRate d => Sys2Proof.Machine.execWrCfgRate d s
  | .wrCfgChan d => Sys2Proof.Machine.execWrCfgChan d s
  | .wrRate d => Sys2Proof.Machine.execWrRate d s
  | .wrChan d => Sys2Proof.Machine.execWrChan d s
  | .wrBufBase d => Sys2Proof.Machine.execWrBufBase d s
  | .wrRender d => Sys2Proof.Machine.execWrRender d s
  | .wrReset d => Sys2Proof.Machine.execWrReset d s
  | .wrMeter0 d => Sys2Proof.Machine.execWrMeter0 d s
  | .wrMeter1 d => Sys2Proof.Machine.execWrMeter1 d s
  | .wrMeter2 d => Sys2Proof.Machine.execWrMeter2 d s
  | .wrMeter3 d => Sys2Proof.Machine.execWrMeter3 d s
  | .wrMeter4 d => Sys2Proof.Machine.execWrMeter4 d s
  | .wrMeter5 d => Sys2Proof.Machine.execWrMeter5 d s
  | .wrMeter6 d => Sys2Proof.Machine.execWrMeter6 d s
  | .paramRefresh => Sys2Proof.Machine.execParamRefresh s
  | .reconcile => Sys2Proof.Machine.execReconcile s
  | .timingRecompute => Sys2Proof.Machine.execTimingRecompute s
  | .scaleRebuild => Sys2Proof.Machine.execScaleRebuild s
  | .walkerAdvance => Sys2Proof.Machine.execWalkerAdvance s
  | .clockTick => Sys2Proof.Machine.execClockTick s
  | .arpTrigger => Sys2Proof.Machine.execArpTrigger s
  | .percGate => Sys2Proof.Machine.execPercGate s
  | .percTrigger => Sys2Proof.Machine.execPercTrigger s
  | .padTrigger => Sys2Proof.Machine.execPadTrigger s
  | .voiceStepArp => Sys2Proof.Machine.execVoiceStepArp s
  | .voiceStepPad => Sys2Proof.Machine.execVoiceStepPad s
  | .voiceTriggerArp => Sys2Proof.Machine.execVoiceTriggerArp s
  | .voiceTriggerPad => Sys2Proof.Machine.execVoiceTriggerPad s
  | .percStep => Sys2Proof.Machine.execPercStep s
  | .mixDelay => Sys2Proof.Machine.execMixDelay s
  | .bandFollow => Sys2Proof.Machine.execBandFollow s
  | .frameWrite => Sys2Proof.Machine.execFrameWrite s
  | .meterPublish => Sys2Proof.Machine.execMeterPublish s
  | .rngInit => Sys2Proof.Machine.execRngInit s
  | .rngFraction => Sys2Proof.Machine.execRngFraction s
  | .rngIntRange => Sys2Proof.Machine.execRngIntRange s
  | .noteFreqArp => Sys2Proof.Machine.execNoteFreqArp s
  | .noteFreqPad => Sys2Proof.Machine.execNoteFreqPad s
  | .loudnessAccum => Sys2Proof.Machine.execLoudnessAccum s
  | .construct => Sys2Proof.Machine.execConstruct s

end Sys2Proof.Machine
end

