-- ==== Sys2Proof/Decode.lean ====
section
/-! DEFINITION. The encodings of the two code formats (R83, R87), the decoder (total: every code is an
instruction or is rejected by name, R187, R89) and, after it, the encoder. -/
namespace Sys2Proof

/-- Why a code is no instruction of the table. -/
inductive Reject where
  /-- A refused bus command, with its cause (R187). -/
  | bus (c : BusCause)
  /-- A UOP code that R87 does not list (R89). -/
  | reservedUop (op : BitVec 8)
  deriving DecidableEq, Repr

/-- The registers in the order of their offsets (R24). -/
def Reg.all : List Reg :=
  [.ctrl, .tempo, .root, .scale, .density, .brightness, .motion, .seed, .enable, .cfgRate, .cfgChan, .rate,
   .chan, .bufBase, .render, .reset, .meter0, .meter1, .meter2, .meter3, .meter4, .meter5, .meter6]

/-- The byte offset of a register in the window (R24). -/
def Reg.offset (r : Reg) : BitVec 12 :=
  match r with
  | .ctrl => 0x000#12
  | .tempo => 0x004#12
  | .root => 0x008#12
  | .scale => 0x00C#12
  | .density => 0x010#12
  | .brightness => 0x014#12
  | .motion => 0x018#12
  | .seed => 0x01C#12
  | .enable => 0x020#12
  | .cfgRate => 0x024#12
  | .cfgChan => 0x028#12
  | .rate => 0x02C#12
  | .chan => 0x030#12
  | .bufBase => 0x034#12
  | .render => 0x038#12
  | .reset => 0x03C#12
  | .meter0 => 0x040#12
  | .meter1 => 0x044#12
  | .meter2 => 0x048#12
  | .meter3 => 0x04C#12
  | .meter4 => 0x050#12
  | .meter5 => 0x054#12
  | .meter6 => 0x058#12

/-- The register at a byte address, every address bit compared (R84). -/
def regAt (a : BitVec 12) : Option Reg :=
  Reg.all.find? fun r => r.offset == a

/-- The read command of a register (R83: W = 0). -/
def readOf (r : Reg) : Instr :=
  match r with
  | .ctrl => .rdCtrl
  | .tempo => .rdTempo
  | .root => .rdRoot
  | .scale => .rdScale
  | .density => .rdDensity
  | .brightness => .rdBrightness
  | .motion => .rdMotion
  | .seed => .rdSeed
  | .enable => .rdEnable
  | .cfgRate => .rdCfgRate
  | .cfgChan => .rdCfgChan
  | .rate => .rdRate
  | .chan => .rdChan
  | .bufBase => .rdBufBase
  | .render => .rdRender
  | .reset => .rdReset
  | .meter0 => .rdMeter0
  | .meter1 => .rdMeter1
  | .meter2 => .rdMeter2
  | .meter3 => .rdMeter3
  | .meter4 => .rdMeter4
  | .meter5 => .rdMeter5
  | .meter6 => .rdMeter6

/-- The write command of a register, with its data word (R83: W = 1). -/
def writeOf (r : Reg) (d : BitVec 32) : Instr :=
  match r with
  | .ctrl => .wrCtrl d
  | .tempo => .wrTempo d
  | .root => .wrRoot d
  | .scale => .wrScale d
  | .density => .wrDensity d
  | .brightness => .wrBrightness d
  | .motion => .wrMotion d
  | .seed => .wrSeed d
  | .enable => .wrEnable d
  | .cfgRate => .wrCfgRate d
  | .cfgChan => .wrCfgChan d
  | .rate => .wrRate d
  | .chan => .wrChan d
  | .bufBase => .wrBufBase d
  | .render => .wrRender d
  | .reset => .wrReset d
  | .meter0 => .wrMeter0 d
  | .meter1 => .wrMeter1 d
  | .meter2 => .wrMeter2 d
  | .meter3 => .wrMeter3 d
  | .meter4 => .wrMeter4 d
  | .meter5 => .wrMeter5 d
  | .meter6 => .wrMeter6 d

/-- The HB16 command word's W bit (R81). -/
def cmdW (cmd : BitVec 16) : Bool := cmd.getLsbD 15

/-- The HB16 command word's RSV field (R81). -/
def cmdRsv (cmd : BitVec 16) : BitVec 3 := cmd.extractLsb' 12 3

/-- The HB16 command word's ADDR field (R81). -/
def cmdAddr (cmd : BitVec 16) : BitVec 12 := cmd.extractLsb' 0 12

/-- The HB16 decode order: RSV first (cause 3), then alignment (cause 2), then the map (cause 1)
(R83, R187). The data word is the operand of a write and is ignored by a read (R81). -/
def decodeHB16 (cmd : BitVec 16) (d : BitVec 32) : Except Reject Instr :=
  if cmdRsv cmd ≠ 0#3 then .error (.bus .reservedBits)
  else if (cmdAddr cmd).extractLsb' 0 2 ≠ 0#2 then .error (.bus .misaligned)
  else
    match regAt (cmdAddr cmd) with
    | none => .error (.bus .unmapped)
    | some r => .ok (if cmdW cmd then writeOf r d else readOf r)

/-- The UOP code table (R87). -/
def uopTable : List (BitVec 8 × Instr) :=
  [(0x02#8, .paramRefresh),
   (0x04#8, .reconcile),
   (0x06#8, .timingRecompute),
   (0x08#8, .scaleRebuild),
   (0x0A#8, .walkerAdvance),
   (0x0C#8, .clockTick),
   (0x0E#8, .arpTrigger),
   (0x10#8, .percGate),
   (0x12#8, .percTrigger),
   (0x14#8, .padTrigger),
   (0x16#8, .voiceStepArp),
   (0x17#8, .voiceStepPad),
   (0x18#8, .voiceTriggerArp),
   (0x19#8, .voiceTriggerPad),
   (0x1A#8, .percStep),
   (0x1C#8, .mixDelay),
   (0x1E#8, .bandFollow),
   (0x20#8, .frameWrite),
   (0x22#8, .meterPublish),
   (0x24#8, .rngInit),
   (0x26#8, .rngFraction),
   (0x28#8, .rngIntRange),
   (0x2A#8, .noteFreqArp),
   (0x2B#8, .noteFreqPad),
   (0x2C#8, .loudnessAccum),
   (0x2E#8, .construct)]

/-- The micro-operation of a UOP code; a reserved code is rejected by name (R89). -/
def decodeUop (op : BitVec 8) : Except Reject Instr :=
  match uopTable.find? fun e => e.1 == op with
  | none => .error (.reservedUop op)
  | some e => .ok e.2

/-- The decoder of both formats. -/
def decode (c : Code) : Except Reject Instr :=
  match c with
  | .hb16 cmd d => decodeHB16 cmd d
  | .uop op => decodeUop op

/-- The code of a read command: `{0, 000, offset}` (R83); its data word is ignored, here 0. -/
def readCode (r : Reg) : Code := .hb16 (0#4 ++ r.offset) 0#32

/-- The code of a write command: `{1, 000, offset}` with its data word (R83). -/
def writeCode (r : Reg) (d : BitVec 32) : Code := .hb16 (8#4 ++ r.offset) d

/-- The encoder: the code of an instruction, from the tables of R24, R83 and R87. -/
def encode (i : Instr) : Code :=
  match i with
  | .rdCtrl => readCode .ctrl
  | .rdTempo => readCode .tempo
  | .rdRoot => readCode .root
  | .rdScale => readCode .scale
  | .rdDensity => readCode .density
  | .rdBrightness => readCode .brightness
  | .rdMotion => readCode .motion
  | .rdSeed => readCode .seed
  | .rdEnable => readCode .enable
  | .rdCfgRate => readCode .cfgRate
  | .rdCfgChan => readCode .cfgChan
  | .rdRate => readCode .rate
  | .rdChan => readCode .chan
  | .rdBufBase => readCode .bufBase
  | .rdRender => readCode .render
  | .rdReset => readCode .reset
  | .rdMeter0 => readCode .meter0
  | .rdMeter1 => readCode .meter1
  | .rdMeter2 => readCode .meter2
  | .rdMeter3 => readCode .meter3
  | .rdMeter4 => readCode .meter4
  | .rdMeter5 => readCode .meter5
  | .rdMeter6 => readCode .meter6
  | .wrCtrl d => writeCode .ctrl d
  | .wrTempo d => writeCode .tempo d
  | .wrRoot d => writeCode .root d
  | .wrScale d => writeCode .scale d
  | .wrDensity d => writeCode .density d
  | .wrBrightness d => writeCode .brightness d
  | .wrMotion d => writeCode .motion d
  | .wrSeed d => writeCode .seed d
  | .wrEnable d => writeCode .enable d
  | .wrCfgRate d => writeCode .cfgRate d
  | .wrCfgChan d => writeCode .cfgChan d
  | .wrRate d => writeCode .rate d
  | .wrChan d => writeCode .chan d
  | .wrBufBase d => writeCode .bufBase d
  | .wrRender d => writeCode .render d
  | .wrReset d => writeCode .reset d
  | .wrMeter0 d => writeCode .meter0 d
  | .wrMeter1 d => writeCode .meter1 d
  | .wrMeter2 d => writeCode .meter2 d
  | .wrMeter3 d => writeCode .meter3 d
  | .wrMeter4 d => writeCode .meter4 d
  | .wrMeter5 d => writeCode .meter5 d
  | .wrMeter6 d => writeCode .meter6 d
  | .paramRefresh => .uop 0x02#8
  | .reconcile => .uop 0x04#8
  | .timingRecompute => .uop 0x06#8
  | .scaleRebuild => .uop 0x08#8
  | .walkerAdvance => .uop 0x0A#8
  | .clockTick => .uop 0x0C#8
  | .arpTrigger => .uop 0x0E#8
  | .percGate => .uop 0x10#8
  | .percTrigger => .uop 0x12#8
  | .padTrigger => .uop 0x14#8
  | .voiceStepArp => .uop 0x16#8
  | .voiceStepPad => .uop 0x17#8
  | .voiceTriggerArp => .uop 0x18#8
  | .voiceTriggerPad => .uop 0x19#8
  | .percStep => .uop 0x1A#8
  | .mixDelay => .uop 0x1C#8
  | .bandFollow => .uop 0x1E#8
  | .frameWrite => .uop 0x20#8
  | .meterPublish => .uop 0x22#8
  | .rngInit => .uop 0x24#8
  | .rngFraction => .uop 0x26#8
  | .rngIntRange => .uop 0x28#8
  | .noteFreqArp => .uop 0x2A#8
  | .noteFreqPad => .uop 0x2B#8
  | .loudnessAccum => .uop 0x2C#8
  | .construct => .uop 0x2E#8

/-- A code as numbered in spec/opcode_table.json: bit 0 is the least significant bit. A row of at most
8 bits is a UOP code; any other is an HB16 command word in bits 15..0 with its data word in bits
47..16. -/
def codeOfTableWord (nbits w : Nat) : Code :=
  if nbits ≤ 8 then .uop (BitVec.ofNat 8 w)
  else .hb16 (BitVec.ofNat 16 w) (BitVec.ofNat 32 (w >>> 16))

/-- The instruction that the decoder reads from a table word. -/
def decodeTableWord (nbits w : Nat) : Option Instr :=
  match decode (codeOfTableWord nbits w) with
  | .ok i => some i
  | .error _ => none

end Sys2Proof
end

