-- ==== Sys2Proof/Machine/Fetch.lean ====
section
/-! DEFINITION. What the next step does: a bus command or a micro-operation that an agent presents, or
the engine's next step at its sequencer position (R22, R166, R170, R186). The micro-program is fixed
and not fetched from memory (R23, R77). -/
namespace Sys2Proof.Machine

/-- How the sequencer moves after an instruction has run. -/
inductive After where
  | stay
  | toFrames
  | nextMicroStep
  deriving DecidableEq, Repr

/-- What a step does: run an instruction on a state and then move the sequencer, or an outcome that is
no table row's (a refused bus command, a part of PARAM_REFRESH or METER_PUBLISH, a micro-program step
without a micro-operation, an idle engine). -/
inductive Fetched where
  | run (i : Instr) (s : State) (after : After)
  | done (r : Result)

/-- A refused bus command: BUSERR and ERRCAUSE, and a read returns 0 (R187, R232). -/
def refuseCommand (cmd : BitVec 16) (c : BusCause) (s : State) : State :=
  if cmdW cmd then busRefuse c s else busReply 0#32 (busRefuse c s)

/-- A bus command takes effect: its instruction, or its refusal (R187). -/
def fetchHB16 (cmd : BitVec 16) (d : Word) (s : State) : Fetched :=
  match decodeHB16 cmd d with
  | .ok i => .run i s .stay
  | .error (.bus c) => .done (.next (refuseCommand cmd c s))
  | .error (.reservedUop op) => .done (.refused (.reservedUop op))

/-- A micro-operation code is run, and the sequencer moves as `after` says; a reserved code has no
behaviour (R89). -/
def fetchUop (op : BitVec 8) (s : State) (after : After) : Fetched :=
  match decodeUop op with
  | .ok i => .run i s after
  | .error _ => .done (.refused (.reservedUop op))

/-- An agent's code takes effect; the micro-operation port is the model's own (log 2). -/
def fetchCode (c : Code) (s : State) : Fetched :=
  match c with
  | .hb16 cmd d => fetchHB16 cmd d s
  | .uop op => fetchUop op s .stay

/-- The micro-operation of micro-program step `seq.k`, where its condition holds (R170). Steps outside
1 to 12, which no run reaches, have none (log 31). -/
def microOp (s : State) : Option (BitVec 8) :=
  match s.seq.k with
  | 1 => some 0x0C#8
  | 2 => if s.ev.ev16 && s.sh.arpEn then some 0x0E#8 else none
  | 3 => if s.ev.ev8 && s.sh.percEn then some 0x10#8 else none
  | 4 => if s.ev.evPad && s.sh.padEn then some 0x14#8 else none
  | 6 => if s.sh.arpEn then some 0x16#8 else none
  | 7 => if s.sh.padEn then some 0x17#8 else none
  | 8 => if s.sh.percEn then some 0x1A#8 else none
  | 9 => some 0x1C#8
  | 10 => some 0x1E#8
  | 11 => some 0x2C#8
  | 12 => some 0x20#8
  | _ => none

/-- What a micro-program step does besides its micro-operation: a frame starts with percFire cleared
(R41; log 30), and step 5 clears the frame accumulator (R170). -/
def microPrelude (s : State) : State :=
  match s.seq.k with
  | 1 => { s with ev := { s.ev with percFire := false } }
  | 5 => { s with mix := { s.mix with L := 0#32, R := 0#32 } }
  | _ => s

/-- The sequencer position after a micro-program step: the next step, the next frame, or PUBLISH after
the last frame (R166). -/
def nextMicro (n : Nat) (q : Seq) : Seq :=
  if q.k < 12 then { q with k := q.k + 1 }
  else if q.i + 1 < n then { q with i := q.i + 1, k := 1 }
  else { q with phase := .publish, k := 0, sub := 0 }

/-- The sequencer position after RECONCILE: the first frame; PUBLISH for a block of no frames, which no
run starts (R166, D22; log 31). -/
def enterFrames (n : Nat) : Seq :=
  if 0 < n then { phase := .frame, i := 0, k := 1, sub := 0 }
  else { phase := .publish, i := 0, k := 0, sub := 0 }

/-- The sequencer moved after an instruction. -/
def finish (a : After) (s : State) : State :=
  match a with
  | .stay => s
  | .toFrames => { s with seq := enterFrames s.blk.N.toNat }
  | .nextMicroStep => { s with seq := nextMicro s.blk.N.toNat s.seq }

/-- The end of the refresh phase (R166). -/
def toReconcile (s : State) : State := { s with seq := { s.seq with phase := .reconcile, sub := 0 } }

/-- One engine step of PARAM_REFRESH: the register read `seq.sub`. HOSTV = 0 skips the others; the last
read also updates the shadow (R167, R186; log 20). -/
def refreshStep (s : State) : Result :=
  let t := refreshRead s.seq.sub s
  if s.seq.sub = 0 then
    if s.reg.ctrl.hostv then .next { t with seq := { t.seq with sub := 1 } } else .next (toReconcile t)
  else if s.seq.sub < 8 then .next { t with seq := { t.seq with sub := t.seq.sub + 1 } }
  else andThen (refreshApply t) fun u => .next (toReconcile u)

/-- One engine step of METER_PUBLISH: the meter write `seq.sub`, and after the seventh the end of the
block (R166, R176, R186; log 21). -/
def publishStep (s : State) : State :=
  if s.seq.sub < 7 then
    { publishMeter s.seq.sub s with seq := { s.seq with sub := s.seq.sub + 1 } }
  else { publishDone s with seq := { phase := .idle, i := 0, k := 0, sub := 0 } }

/-- The engine's next step. An idle engine keeps all its state (R250). -/
def fetchEngine (s : State) : Fetched :=
  match s.seq.phase with
  | .idle => .done (.next s)
  | .refresh => .done (refreshStep s)
  | .reconcile => fetchUop 0x04#8 s .toFrames
  | .frame =>
    match microOp s with
    | some op => fetchUop op (microPrelude s) .nextMicroStep
    | none => .done (.next (finish .nextMicroStep (microPrelude s)))
  | .publish => .done (.next (publishStep s))

/-- The next event of the serial order is taken; when none is left the engine goes on (R186; log 1). -/
def fetch (s : State) : Fetched :=
  match s.sched with
  | [] => fetchEngine s
  | .engine :: rest => fetchEngine { s with sched := rest }
  | .code c :: rest => fetchCode c { s with sched := rest }

end Sys2Proof.Machine
end

