-- ==== Sys2Proof/Machine/Step.lean ====
section
/-! DEFINITION. One step of the machine: fetch, run, move the sequencer. -/
namespace Sys2Proof.Machine

/-- One step: what the fetch finds, an instruction being run by `exec`. -/
def step (s : State) : Host.Outcome State Fault Refusal :=
  match fetch s with
  | .run i t after => andThen (exec i t) fun u => .next (finish after u)
  | .done r => r

/-- The state whose next step runs the code of a table word: the code is the next event of the serial
order. Nothing else is changed (log 1). -/
def State.withFetchWord (s : State) (nbits w : Nat) : State :=
  { s with sched := .code (codeOfTableWord nbits w) :: s.sched }

end Sys2Proof.Machine
end

