-- ==== Sys2Proof/Machine/HostProgram.lean ====
section
/-! DEFINITION. Host programs as the assembler writes them (R94, R95, R96): the pseudo-instructions as the
commands they expand to, the named values of a data word, the raw form, and the run of a program against
the machine. The text of a program is not modelled (log 37). -/
namespace Sys2Proof.Machine

/-! ### Programs -/

/-- One action of a host program: a command, or `RD CTRL` repeated until bit 1 (BUSY) reads 0, as RENDERW
expands to (R94, R96). -/
inductive HostOp where
  | command (c : Code)
  | pollIdle
  deriving DecidableEq, Repr

/-- A straight-line program: one command per line (R94). -/
def issue (p : List Instr) : List HostOp := p.map fun i => .command (encode i)

/-- `RAW cmd, data`: any command word (R94). -/
def raw (cmd : BitVec 16) (d : Word) : HostOp := .command (.hb16 cmd d)

/-- `RESEED s`: the reseed operation (R96, R222). -/
def reseed (s : Word) : List HostOp := issue [.wrSeed s]

/-- `SETMOTION x`: the motion-set operation (R96, R222). -/
def setMotion (x : F32) : List HostOp := issue [.wrMotion x]

/-- `CONSTRUCT fs, ch`: construction with a sample rate and a channel count (R96, R222). -/
def constructWith (fs ch : Word) : List HostOp := issue [.wrCfgRate fs, .wrCfgChan ch, .wrReset 0#32]

/-- `RENDERW n`: WR RENDER, RD CTRL until BUSY reads 0, RD RENDER; how often CTRL is read is left to the
run (R96). -/
def renderWait (n : Word) : List HostOp :=
  [.command (encode (.wrRender n)), .pollIdle, .command (encode .rdRender)]

/-- The render entry point used synchronously: the buffer's base, then RENDERW (R222). -/
def renderInto (base n : Word) : List HostOp := issue [.wrBufBase base] ++ renderWait n

/-! ### Named values -/

/-- The SCALE names IONIAN, DORIAN, MINPENT and HARMMIN (R95). -/
def scaleIonian : Word := 0#32

/-- DORIAN (R95). -/
def scaleDorian : Word := 1#32

/-- MINPENT (R95). -/
def scaleMinPent : Word := 2#32

/-- HARMMIN (R95). -/
def scaleHarmMin : Word := 3#32

/-- The ENABLE name ARP; names are joined by `|||` (R95). -/
def enableArp : Word := 1#32

/-- The ENABLE name PERC (R95). -/
def enablePerc : Word := 2#32

/-- The ENABLE name PAD (R95). -/
def enablePad : Word := 4#32

/-! ### The run of a program

Between two commands of one host any number of engine turns and of other agents' commands may take effect
(R186): each such gap is given as the events in it, so every serial order is some list of gaps. -/

/-- The given events, one step each, ahead of whatever else is to come (R186). -/
def runEvents : List Event → State → Result
  | [], s => .next s
  | e :: rest, s => andThen (step { s with sched := e :: s.sched }) (runEvents rest)

/-- The command that an action issues. -/
def HostOp.code (o : HostOp) : Code :=
  match o with
  | .command c => c
  | .pollIdle => encode .rdCtrl

/-- The rest of a program once an action's command has been answered: a poll whose answer has bit 1 set
polls again (R96). -/
def HostOp.remaining (o : HostOp) (answer : Word) (p : List HostOp) : List HostOp :=
  match o with
  | .command _ => p
  | .pollIdle => if answer.getLsbD 1 then .pollIdle :: p else p

/-- How far a host program has come: it has ended, or stopped with the machine; or the given gaps are used
up and it goes on from a state. -/
inductive HostOutcome where
  | done (r : Result)
  | waiting (p : List HostOp) (s : State)

/-- A host program run against the machine: before each command the events of the next gap take effect. A
poll is issued as often as BUSY reads 1 (R96, R186). -/
def runHost : List (List Event) → List HostOp → State → HostOutcome
  | _, [], s => .done (.next s)
  | [], o :: p, s => .waiting (o :: p) s
  | gap :: gaps, o :: p, s =>
    match runEvents (gap ++ [.code o.code]) s with
    | .next t => runHost gaps (o.remaining t.rdata p) t
    | r => .done r

end Sys2Proof.Machine
end

