-- ==== Sys2Proof/Safety.lean ====
section
/-! DEFINITION. What the claims speak about: the invariant of the machine, runs of the engine alone,
the per-frame micro-program written out, and which instructions are host commands. -/
namespace Sys2Proof.Machine

/-- The legal sequencer positions (R22, R166): `i` counts the block's frames, `k` the micro-program's
steps, `sub` the reads of PARAM_REFRESH or the writes of METER_PUBLISH (log 20). -/
def positionLegal (n : Nat) (q : Seq) : Prop :=
  match q.phase with
  | .idle => q.i = 0 ∧ q.k = 0 ∧ q.sub = 0
  | .refresh => 0 < n ∧ q.i = 0 ∧ q.k = 0 ∧ q.sub ≤ 8
  | .reconcile => 0 < n ∧ q.i = 0 ∧ q.k = 0 ∧ q.sub = 0
  | .frame => q.i < n ∧ 1 ≤ q.k ∧ q.k ≤ 12
  | .publish => 0 < n ∧ q.sub ≤ 7

/-- What holds in every state that the engine and its hosts can reach. `port` says that nobody uses the
model's micro-operation port (R86, R89; log 2). -/
structure Inv (s : State) : Prop where
  /-- Host memory is in its canonical form, inside 32-bit addresses (R68). -/
  memory : Memory.wf s.mem = true
  /-- ERRCAUSE is 0 while BUSERR is 0 (R25). -/
  causeClear : s.reg.ctrl.buserr = false → s.reg.ctrl.errcause = 0#3
  /-- ERRCAUSE codes 6 and 7 are never written (R233). -/
  causeLegal : s.reg.ctrl.errcause.toNat ≤ 5
  /-- MOTION holds a value in [0, 1] (R31). -/
  motion : inUnit s.reg.motion = true
  /-- The effective sample rate is positive (R40). -/
  rate : 0 < s.cfg.rate.toInt
  /-- The effective channel count is positive (R40). -/
  chan : 0 < s.cfg.C.toInt
  /-- `cfg.fs` is the sample rate as a binary32 (R40). -/
  fs : s.cfg.fs = fofInt s.cfg.rate.toInt
  /-- The shadow density is in [0, 1] (R42). -/
  shDensity : inUnit s.sh.density = true
  /-- The shadow brightness is in [0, 1] (R42). -/
  shBrightness : inUnit s.sh.brightness = true
  /-- The shadow motion is in [0, 1] (R42). -/
  shMotion : inUnit s.sh.motion = true
  /-- The shadow tempo is no NaN (R167, R236). -/
  shBpm : isNaN s.sh.bpm = false
  /-- The scale table is the ROM row of the selector last rebuilt (R43, R47). -/
  table : s.walk.tbl = scaleRow s.recon.lastScale
  /-- `walk.len` is the table's length (R47). -/
  length : s.walk.len = s.walk.tbl.length
  /-- The walker index is inside the table (R58). -/
  index : s.walk.idx < s.walk.len
  /-- BUSY is 1 exactly while a block runs (R25). -/
  busy : s.reg.ctrl.busy = true ↔ s.seq.phase ≠ .idle
  /-- The latched buffer base is word aligned (R64). -/
  base : s.blk.base.toNat % 4 = 0
  /-- The sequencer position is a legal one (R22). -/
  position : positionLegal s.blk.N.toNat s.seq
  /-- No micro-operation is waiting at the port (R86). -/
  port : ∀ op, Event.code (.uop op) ∉ s.sched

/-- The next event of the serial order is not a bus command nor a port code: the engine moves. -/
def engineNext (s : State) : Prop :=
  match s.sched with
  | [] => True
  | .engine :: _ => True
  | .code _ :: _ => False

/-- n steps, stopping at the first fault or refusal. -/
def runSteps : Nat → State → Result
  | 0, s => .next s
  | n + 1, s => andThen (step s) (runSteps n)

/-- An instruction run where a condition holds (the `if` of R170). -/
def execIf (c : Bool) (i : Instr) (s : State) : Result := if c then exec i s else .next s

/-- The per-frame micro-program of R170, written with the instructions it names: the frame's flags are
cleared (R41), then steps k = 1 to 12. -/
def frameProgram (s : State) : Result :=
  andThen (exec .clockTick { s with ev := { s.ev with percFire := false } }) fun s1 =>
  andThen (execIf (s1.ev.ev16 && s1.sh.arpEn) .arpTrigger s1) fun s2 =>
  andThen (execIf (s2.ev.ev8 && s2.sh.percEn) .percGate s2) fun s3 =>
  andThen (execIf (s3.ev.evPad && s3.sh.padEn) .padTrigger s3) fun s4 =>
  andThen (execIf s4.sh.arpEn .voiceStepArp { s4 with mix := { s4.mix with L := 0#32, R := 0#32 } })
    fun s6 =>
  andThen (execIf s6.sh.padEn .voiceStepPad s6) fun s7 =>
  andThen (execIf s7.sh.percEn .percStep s7) fun s8 =>
  andThen (exec .mixDelay s8) fun s9 =>
  andThen (exec .bandFollow s9) fun s10 =>
  andThen (exec .loudnessAccum s10) fun s11 =>
  exec .frameWrite s11

/-- n ticks of the clock. -/
def ticks : Nat → State → State
  | 0, s => s
  | n + 1, s => clockTick (ticks n s)

/-- The bus commands that neither start a block nor construct: every read, and every write but WR RENDER
and WR RESET. -/
def plainCommand (i : Instr) : Prop :=
  match encode i with
  | .uop _ => False
  | .hb16 cmd _ => cmd ≠ 0x8038#16 ∧ cmd ≠ 0x803C#16

/-- The state once the next event of the serial order is taken. -/
def popped (s : State) : State := { s with sched := s.sched.tail }

/-- An outcome with its next state changed by f. -/
def mapNext (f : State → State) (r : Result) : Result := andThen r fun t => .next (f t)

/-- NOTE_FREQ v (R88). -/
def noteFreqOf (v : VoiceId) : Instr :=
  match v with
  | .arp => .noteFreqArp
  | .pad => .noteFreqPad

/-- VOICE_TRIGGER v (R88). -/
def voiceTriggerOf (v : VoiceId) : Instr :=
  match v with
  | .arp => .voiceTriggerArp
  | .pad => .voiceTriggerPad

/-- VOICE_STEP v (R88). -/
def voiceStepOf (v : VoiceId) : Instr :=
  match v with
  | .arp => .voiceStepArp
  | .pad => .voiceStepPad

/-- The two instructions that run the construction sequence (R219, R255). -/
def constructs (i : Instr) : Prop := i = .construct ∨ ∃ d, i = .wrReset d

/-- The engine steps of a block of n frames that is at the first step of its refresh: nine register reads
(one if HOSTV is 0), RECONCILE, twelve steps a frame, seven meter writes and the end (R166, R186). -/
def blockSteps (hostv : Bool) (n : Nat) : Nat := (if hostv then 9 else 1) + 1 + 12 * n + 8

end Sys2Proof.Machine
end

