-- ==== Sys2Proof/Certificates/Slice0/Obligations.lean ====
section
/-! DEFINITION. The statements for the provers. Their order is: the host bus, codes and decoding, the
step and the sequencer, the machine's invariant, the micro-operations family by family, and the rules
about the whole machine. A statement that writes a next state as `{ s with … }` says with it that every
field not named there is unchanged (every register, flag, latch and byte of memory). -/
section

open Sys2Proof Sys2Proof.Machine

/-! ### Host bus reads -/

/-- R190, R192, R194, R196, R198, R202, R204, R206, R208. -/
def Obligations.ParameterReadsReturnStoredWords : Prop :=
  ∀ s : State,
    exec .rdTempo s = .next { s with rdata := s.reg.tempo } ∧
    exec .rdRoot s = .next { s with rdata := s.reg.root } ∧
    exec .rdScale s = .next { s with rdata := BitVec.ofNat 32 s.reg.scale.toNat } ∧
    exec .rdDensity s = .next { s with rdata := s.reg.density } ∧
    exec .rdBrightness s = .next { s with rdata := s.reg.brightness } ∧
    exec .rdSeed s = .next { s with rdata := s.reg.seed } ∧
    exec .rdEnable s = .next { s with rdata := BitVec.ofNat 32 s.reg.enable.toNat } ∧
    exec .rdCfgRate s = .next { s with rdata := s.reg.cfgRate } ∧
    exec .rdCfgChan s = .next { s with rdata := s.reg.cfgChan }

/-- R200. The second part needs the machine's invariant (StepKeepsInvariant); `inUnit` admits −0.0. -/
def Obligations.MotionReadIsBetweenZeroAndOne : Prop :=
  ∀ s : State, Inv s →
    exec .rdMotion s = .next { s with rdata := s.reg.motion } ∧
    fle 0#32 s.reg.motion = true ∧ fle s.reg.motion 0x3F800000#32 = true

/-- R188, bit by bit, with its two examples. -/
def Obligations.CtrlReadPacksTheFields : Prop :=
  (∀ s : State, ∃ w : Word,
    exec .rdCtrl s = .next { s with rdata := w } ∧
    w.getLsbD 0 = s.reg.ctrl.hostv ∧ w.getLsbD 1 = s.reg.ctrl.busy ∧
    w.getLsbD 2 = s.reg.ctrl.buserr ∧ w.getLsbD 3 = false ∧
    w.extractLsb' 4 3 = s.reg.ctrl.errcause ∧ w.extractLsb' 7 25 = 0#25) ∧
  exec .rdCtrl State.reset = .next { State.reset with rdata := 0x00000001#32 } ∧
  ∀ s : State, s.reg.ctrl = ⟨true, true, false, 0#3⟩ →
    exec .rdCtrl s = .next { s with rdata := 0x00000003#32 }

/-- R210, R212, R214, R218. -/
def Obligations.ConfigurationAndBlockReads : Prop :=
  ∀ s : State,
    exec .rdRate s = .next { s with rdata := s.cfg.rate } ∧
    exec .rdChan s = .next { s with rdata := s.cfg.C } ∧
    exec .rdReset s = .next { s with rdata := 0#32 } ∧
    ∃ w : Word, exec .rdBufBase s = .next { s with rdata := w } ∧
      w.extractLsb' 2 30 = s.reg.bufBase ∧ w.extractLsb' 0 2 = 0#2

/-- R216 and R37: where the read-back of RENDER comes from. That a block leaves it alone until its end
is part of BlockEndsAfterItsSteps. -/
def Obligations.RenderReadsTheLastCount : Prop :=
  (∀ s : State, exec .rdRender s = .next { s with rdata := s.reg.render }) ∧
  State.reset.reg.render = 0#32 ∧
  (∀ s t : State, exec .construct s = .next t → t.reg.render = 0#32) ∧
  (∀ s : State, s.reg.ctrl.busy = false →
    exec (.wrRender 0#32) s = .next { s with reg := { s.reg with render := 0#32 } }) ∧
  ∀ s : State, ∃ t : State, exec .meterPublish s = .next t ∧ t.reg.render = s.blk.N

/-- R220 and R85: the seven meters in their order, and the eighth offset unmapped. -/
def Obligations.MeterReadsReturnTheCells : Prop :=
  (∀ s : State,
    exec .rdMeter0 s = .next { s with rdata := s.meter.m0 } ∧
    exec .rdMeter1 s = .next { s with rdata := s.meter.m1 } ∧
    exec .rdMeter2 s = .next { s with rdata := s.meter.m2 } ∧
    exec .rdMeter3 s = .next { s with rdata := s.meter.m3 } ∧
    exec .rdMeter4 s = .next { s with rdata := s.meter.m4 } ∧
    exec .rdMeter5 s = .next { s with rdata := s.meter.m5 } ∧
    exec .rdMeter6 s = .next { s with rdata := s.meter.m6 }) ∧
  ∀ d : Word,
    decode (.hb16 0x0040#16 d) = .ok .rdMeter0 ∧ decode (.hb16 0x0044#16 d) = .ok .rdMeter1 ∧
    decode (.hb16 0x0048#16 d) = .ok .rdMeter2 ∧ decode (.hb16 0x004C#16 d) = .ok .rdMeter3 ∧
    decode (.hb16 0x0050#16 d) = .ok .rdMeter4 ∧ decode (.hb16 0x0054#16 d) = .ok .rdMeter5 ∧
    decode (.hb16 0x0058#16 d) = .ok .rdMeter6 ∧
    decode (.hb16 0x005C#16 d) = .error (.bus .unmapped)

/-! ### Host bus writes -/

/-- R193, R195 and R215, with their examples. R215 holds for every state, a running block's too, and
leaves its latched base. -/
def Obligations.RootScaleAndBaseWrites : Prop :=
  (∀ (s : State) (d : Word),
    exec (.wrRoot d) s = .next { s with reg := { s.reg with root := d } } ∧
    exec (.wrScale d) s = .next { s with reg := { s.reg with scale := d.extractLsb' 0 2 } } ∧
    exec (.wrBufBase d) s = .next { s with reg := { s.reg with bufBase := d.extractLsb' 2 30 } } ∧
    ∀ t : State, exec (.wrBufBase d) s = .next t →
      exec .rdBufBase t = .next { t with rdata := d &&& 0xFFFFFFFC#32 }) ∧
  (∀ s t : State, exec (.wrRoot 0xFFFFFFF4#32) s = .next t → t.reg.root.toInt = -12) ∧
  (∀ s t : State, exec (.wrScale 0x00000006#32) s = .next t → t.reg.scale = 2#2) ∧
  ∀ s t : State, exec (.wrBufBase 0x00001003#32) s = .next t →
    exec .rdBufBase t = .next { t with rdata := 0x00001000#32 }

/-- R191, R197, R199, R203, R205, R207, R209: any pattern is stored (a NaN too), and nothing else
happens until a refresh or a construction reads it. -/
def Obligations.ParameterWritesStoreTheWord : Prop :=
  ∀ (s : State) (d : Word),
    exec (.wrTempo d) s = .next { s with reg := { s.reg with tempo := d } } ∧
    exec (.wrDensity d) s = .next { s with reg := { s.reg with density := d } } ∧
    exec (.wrBrightness d) s = .next { s with reg := { s.reg with brightness := d } } ∧
    exec (.wrSeed d) s = .next { s with reg := { s.reg with seed := d } } ∧
    exec (.wrEnable d) s = .next { s with reg := { s.reg with enable := d.extractLsb' 0 3 } } ∧
    exec (.wrCfgRate d) s = .next { s with reg := { s.reg with cfgRate := d } } ∧
    exec (.wrCfgChan d) s = .next { s with reg := { s.reg with cfgChan := d } }

/-- R211, R213, R221. -/
def Obligations.ReadOnlyWritesChangeNothing : Prop :=
  ∀ (s : State) (d : Word),
    exec (.wrRate d) s = .next s ∧ exec (.wrChan d) s = .next s ∧
    exec (.wrMeter0 d) s = .next s ∧ exec (.wrMeter1 d) s = .next s ∧
    exec (.wrMeter2 d) s = .next s ∧ exec (.wrMeter3 d) s = .next s ∧
    exec (.wrMeter4 d) s = .next s ∧ exec (.wrMeter5 d) s = .next s ∧
    exec (.wrMeter6 d) s = .next s

/-- R189 and R25, with R189's two examples. -/
def Obligations.CtrlWriteSetsHostvAndClearsErrors : Prop :=
  (∀ (s : State) (d : Word), ∃ c : Ctrl,
    exec (.wrCtrl d) s = .next { s with reg := { s.reg with ctrl := c } } ∧
    c.hostv = d.getLsbD 0 ∧ c.busy = s.reg.ctrl.busy ∧
    (d.getLsbD 2 = true → c.buserr = false ∧ c.errcause = 0#3) ∧
    (d.getLsbD 2 = false → c.buserr = s.reg.ctrl.buserr ∧ c.errcause = s.reg.ctrl.errcause)) ∧
  ∀ s : State, s.reg.ctrl = ⟨true, false, true, 2#3⟩ →
    exec .rdCtrl s = .next { s with rdata := 0x00000025#32 } ∧
    (∃ t : State, exec (.wrCtrl 0x5#32) s = .next t ∧
      exec .rdCtrl t = .next { t with rdata := 0x00000001#32 }) ∧
    ∃ t : State, exec (.wrCtrl 0x4#32) s = .next t ∧
      exec .rdCtrl t = .next { t with rdata := 0x00000000#32 }

/-- R201, with its corner cases and its example. -/
def Obligations.MotionWriteClamps : Prop :=
  (∀ (s : State) (d : Word),
    (isNaN d = true → exec (.wrMotion d) s = .fault (.paramNaN .motion)) ∧
    (isNaN d = false → exec (.wrMotion d) s = .next { s with reg := { s.reg with
      motion :=
        if flt d 0x00000000#32 then 0x00000000#32
        else if flt 0x3F800000#32 d then 0x3F800000#32 else d } })) ∧
  ∀ s : State,
    exec (.wrMotion 0x7F800000#32) s = .next { s with reg := { s.reg with motion := 0x3F800000#32 } } ∧
    exec (.wrMotion 0xFF800000#32) s = .next { s with reg := { s.reg with motion := 0x00000000#32 } } ∧
    exec (.wrMotion 0x80000000#32) s = .next { s with reg := { s.reg with motion := 0x80000000#32 } } ∧
    exec (.wrMotion 0x3FC00000#32) s = .next { s with reg := { s.reg with motion := 0x3F800000#32 } }

/-- R217 and R166: refused with cause 4 while BUSY, a zero-frame request, and the start of a block. -/
def Obligations.RenderWriteStartsABlock : Prop :=
  ∀ (s : State) (d : Word),
    (s.reg.ctrl.busy = true →
      exec (.wrRender d) s = .next { s with reg := { s.reg with ctrl := { s.reg.ctrl with
        buserr := true
        errcause := if s.reg.ctrl.buserr then s.reg.ctrl.errcause else 4#3 } } }) ∧
    (s.reg.ctrl.busy = false → d = 0#32 →
      exec (.wrRender d) s = .next { s with reg := { s.reg with render := 0#32 } }) ∧
    (s.reg.ctrl.busy = false → d ≠ 0#32 →
      exec (.wrRender d) s = .next { s with
        reg := { s.reg with ctrl := { s.reg.ctrl with busy := true } }
        blk := { N := d, base := s.reg.bufBase ++ 0#2 }
        seq := { phase := .refresh, i := 0, k := 0, sub := 0 } })

/-- R219: refused with cause 5 while BUSY; else the construction sequence (ConstructionSequence), the data
word ignored; it answers a next state exactly when no parameter register is a NaN (R236, R255). -/
def Obligations.ResetWriteConstructs : Prop :=
  ∀ (s : State) (d : Word),
    (s.reg.ctrl.busy = true →
      exec (.wrReset d) s = .next { s with reg := { s.reg with ctrl := { s.reg.ctrl with
        buserr := true
        errcause := if s.reg.ctrl.buserr then s.reg.ctrl.errcause else 5#3 } } }) ∧
    (s.reg.ctrl.busy = false → exec (.wrReset d) s = exec .construct s) ∧
    (s.reg.ctrl.busy = false → isNaN s.reg.tempo = false → isNaN s.reg.density = false →
      isNaN s.reg.brightness = false → isNaN s.reg.motion = false →
      ∃ t : State, exec (.wrReset d) s = .next t ∧ exec .construct s = .next t ∧
        t.cfg.rate = (if 0 < s.reg.cfgRate.toInt then s.reg.cfgRate else 48000#32) ∧
        t.cfg.C = (if 0 < s.reg.cfgChan.toInt then s.reg.cfgChan else 2#32) ∧
        t.meter = ⟨0#32, 0#32, 0#32, 0#32, 0#32, 0#32, 0#32⟩ ∧ t.mem = s.mem ∧
        t.reg = { s.reg with render := 0#32 })

/-- R187 and R90: every command word has one of four outcomes, taken in this order. A refused command
sets BUSERR, keeps the first cause, makes a read return 0, and changes nothing else. -/
def Obligations.RefusedCommandsOnlyRecordTheCause : Prop :=
  ∀ (s : State) (cmd : BitVec 16) (d : Word), s.sched.head? = some (.code (.hb16 cmd d)) →
    let refused (c : BitVec 3) : State := { popped s with
      reg := { s.reg with ctrl := { s.reg.ctrl with
        buserr := true
        errcause := if s.reg.ctrl.buserr then s.reg.ctrl.errcause else c } }
      rdata := if cmd.getLsbD 15 then s.rdata else 0#32 }
    if cmd.extractLsb' 12 3 ≠ 0#3 then step s = .next (refused 3#3)
    else if cmd.extractLsb' 0 2 ≠ 0#2 then step s = .next (refused 2#3)
    else if 0x058 < (cmd.extractLsb' 0 12).toNat then step s = .next (refused 1#3)
    else ∃ r : Reg, r.offset = cmd.extractLsb' 0 12 ∧
      step s = exec (if cmd.getLsbD 15 then writeOf r d else readOf r) (popped s)

/-! ### Codes -/

/-- R83, R87: decoding an encoded instruction gives it back, for every instruction and data word; and a
code that decodes is its instruction's code, but for the data word of a read, which is ignored (R81). -/
def Obligations.DecodeAndEncodeAgree : Prop :=
  (∀ i : Instr, decode (encode i) = .ok i) ∧
  (∀ (op : BitVec 8) (i : Instr), decode (.uop op) = .ok i → encode i = .uop op) ∧
  (∀ (cmd : BitVec 16) (d : Word) (i : Instr), decode (.hb16 cmd d) = .ok i →
    encode i = .hb16 cmd (if cmd.getLsbD 15 then d else 0#32)) ∧
  ∀ i j : Instr, encode i = encode j → i = j

/-- R83, R87, R89, R90: the well-formed codes are the ones that decode, and a code that is not is
rejected with its cause. -/
def Obligations.WellFormedCodesAreTheDecodableOnes : Prop :=
  (∀ c : Code, c.wellFormed = true ↔ ∃ i : Instr, decode c = .ok i) ∧
  (∀ op : BitVec 8, uopListed op = false → decode (.uop op) = .error (.reservedUop op)) ∧
  ∀ (cmd : BitVec 16) (d : Word), (Code.hb16 cmd d).wellFormed = false →
    ∃ c : BusCause, decode (.hb16 cmd d) = .error (.bus c) ∧
      (c.code = 3#3 ↔ cmd.extractLsb' 12 3 ≠ 0#3) ∧
      (c.code = 2#3 ↔ cmd.extractLsb' 12 3 = 0#3 ∧ cmd.extractLsb' 0 2 ≠ 0#2) ∧
      (c.code = 1#3 ↔ cmd.extractLsb' 12 3 = 0#3 ∧ cmd.extractLsb' 0 2 = 0#2)

/-- R83, R87 and R94's example: words written out from the spec decode to what they stand for. -/
def Obligations.SpecWordsDecode : Prop :=
  decodeTableWord 16 0x0004 = some .rdTempo ∧
  decodeTableWord 16 0x0058 = some .rdMeter6 ∧
  decodeTableWord 16 0x8038 = some (.wrRender 0#32) ∧
  decodeTableWord 48 0x42F000008004 = some (.wrTempo 0x42F00000#32) ∧
  decodeTableWord 8 0x17 = some .voiceStepPad ∧
  decodeTableWord 8 0x2E = some .construct ∧
  decodeTableWord 8 0x2F = none ∧
  decodeTableWord 16 0x1004 = none

/-! ### The step and the sequencer -/

/-- A step runs the instruction that its next event decodes to, and does nothing around it but take the
event; the engine's own step runs the micro-operation of its position and moves the sequencer (R166,
R170, R186). The model's own: that codes arrive through `sched` (logs 1 and 2), that RECONCILE is one
engine step, which R186 does not name (log 22), and that percFire is cleared before the micro-operation
of k = 1 (log 30; `microPrelude`). -/
def Obligations.StepRunsTheDecodedInstruction : Prop :=
  (∀ (s : State) (c : Code) (i : Instr), s.sched.head? = some (.code c) → decode c = .ok i →
    step s = exec i (popped s)) ∧
  (∀ (s : State) (nbits w : Nat) (i : Instr), decodeTableWord nbits w = some i →
    step (s.withFetchWord nbits w) = exec i s) ∧
  (∀ s : State, engineNext s → s.seq.phase = .reconcile →
    step s = mapNext (fun t => { t with seq := enterFrames t.blk.N.toNat }) (exec .reconcile (popped s))) ∧
  ∀ (s : State) (op : BitVec 8) (i : Instr), engineNext s → s.seq.phase = .frame →
    microOp s = some op → decode (.uop op) = .ok i →
    step s = mapNext (fun t => { t with seq := nextMicro t.blk.N.toNat t.seq })
      (exec i (microPrelude (popped s)))

/-- R22, R166 and R242: the sequencer only advances as R166 gives; an idle engine keeps all state (R250);
a bus command moves it only by starting a block or by constructing. How the phases are cut into engine
steps is the model's reading of R186: the ENABLE read ends REFRESH (log 20), the block ends in a step of
its own after METER6 (log 21), RECONCILE is one step (log 22). -/
def Obligations.SequencerFollowsTheBlockPhases : Prop :=
  ∀ s t : State, Inv s → step s = .next t →
    (engineNext s →
      match s.seq.phase with
      | .idle => t = popped s
      | .refresh =>
        if s.seq.sub < 8 ∧ (s.seq.sub = 0 → s.reg.ctrl.hostv = true) then
          t.seq = ⟨.refresh, 0, 0, s.seq.sub + 1⟩
        else t.seq = ⟨.reconcile, 0, 0, 0⟩
      | .reconcile => t.seq = ⟨.frame, 0, 1, 0⟩
      | .frame =>
        if s.seq.k < 12 then t.seq.phase = .frame ∧ t.seq.i = s.seq.i ∧ t.seq.k = s.seq.k + 1
        else if s.seq.i + 1 < s.blk.N.toNat then
          t.seq.phase = .frame ∧ t.seq.i = s.seq.i + 1 ∧ t.seq.k = 1
        else t.seq.phase = .publish ∧ t.seq.k = 0 ∧ t.seq.sub = 0
      | .publish =>
        if s.seq.sub < 7 then t.seq.phase = .publish ∧ t.seq.sub = s.seq.sub + 1
        else t.seq = ⟨.idle, 0, 0, 0⟩) ∧
    (¬ engineNext s → t.seq = s.seq ∨ t.seq = ⟨.refresh, 0, 0, 0⟩ ∧ s.seq.phase = .idle ∨
      t.seq = ⟨.idle, 0, 0, 0⟩ ∧ s.seq.phase = .idle)

/-- R167, R176, R186: with no bus command in between, the engine steps of the REFRESH phase are
PARAM_REFRESH and those of the PUBLISH phase are METER_PUBLISH. The cut into steps is the model's reading
(logs 20 and 21). -/
def Obligations.RefreshAndPublishPhasesAreTheirOperations : Prop :=
  ∀ s : State, s.sched = [] → s.seq.sub = 0 →
    (s.seq.phase = .refresh →
      runSteps (if s.reg.ctrl.hostv then 9 else 1) s =
        mapNext (fun t => { t with seq := { t.seq with phase := .reconcile, sub := 0 } })
          (exec .paramRefresh s)) ∧
    (s.seq.phase = .publish →
      runSteps 8 s = mapNext (fun t => { t with seq := ⟨.idle, 0, 0, 0⟩ }) (exec .meterPublish s))

/-- R170: with no bus command in between, the twelve engine steps of a frame are the per-frame
micro-program (Safety.lean writes it out), and then comes the next frame, or PUBLISH after the last. -/
def Obligations.FramePhaseIsTheMicroProgram : Prop :=
  ∀ s : State, s.sched = [] → s.seq.phase = .frame → s.seq.k = 1 →
    runSteps 12 s =
      mapNext (fun t => { t with seq :=
          if s.seq.i + 1 < s.blk.N.toNat then { s.seq with i := s.seq.i + 1, k := 1 }
          else { s.seq with phase := .publish, k := 0, sub := 0 } })
        (frameProgram s)

/-- R166, R74, R216: a block that raises no model fault ends after its engine steps, idle, with BUSY 0 and
RENDER reading its frame count; and until its last step BUSY is 1 and RENDER holds the previous count. The
number of engine steps (`blockSteps`: 12 N + 18, or 12 N + 10 with HOSTV 0) is the model's reading of R186
(logs 20, 21 and 22); the spec gives no such count. -/
def Obligations.BlockEndsAfterItsSteps : Prop :=
  ∀ s t : State, Inv s → s.sched = [] → s.seq.phase = .refresh → s.seq.sub = 0 →
    runSteps (blockSteps s.reg.ctrl.hostv s.blk.N.toNat) s = .next t →
    t.seq = ⟨.idle, 0, 0, 0⟩ ∧ t.reg = { s.reg with
      render := s.blk.N, ctrl := { s.reg.ctrl with busy := false } } ∧
    ∀ n < blockSteps s.reg.ctrl.hostv s.blk.N.toNat,
      ∃ u : State, runSteps n s = .next u ∧ u.reg = s.reg

/-! ### The invariant -/

/-- Every step keeps the machine's invariant (Safety.lean): the canonical form of memory (R68), R25's and
R233's CTRL fields, MOTION's range (R31), the effective rate and channel count (R40), the shadow's ranges
(R42), the table and the walker index (R43, R47, R58), BUSY (R25), the base's alignment (R64) and the
sequencer's position (R22). -/
def Obligations.StepKeepsInvariant : Prop :=
  ∀ s t : State, Inv s → step s = .next t → Inv t

/-- The state after reset meets the invariant. -/
def Obligations.ResetMeetsInvariant : Prop := Inv State.reset

/-- R235 to R238: on the states of the invariant no step is refused, and a step stops only with one of
the three model faults, under its rule's condition. That the refresh's ParamNaN comes at the step of the
ENABLE read is the model's cut (log 20), and that it names the first NaN register its choice (log 28). -/
def Obligations.StopsComeOnlyFromTheNamedConditions : Prop :=
  ∀ s : State, Inv s →
    (∀ r : Refusal, step s ≠ .refused r) ∧
    (∀ p : ParamReg, step s = .fault (.paramNaN p) →
      (engineNext s ∧ s.seq.phase = .refresh ∧ s.seq.sub = 8 ∧
        firstNaN s.refr.t s.refr.d s.refr.bb s.refr.m = some p) ∨
      (∃ d : Word, s.sched.head? = some (.code (.hb16 0x8018#16 d)) ∧ isNaN d = true ∧ p = .motion) ∨
      ∃ d : Word, s.sched.head? = some (.code (.hb16 0x803C#16 d)) ∧ s.reg.ctrl.busy = false ∧
        firstNaN s.reg.tempo s.reg.density s.reg.brightness s.reg.motion = some p) ∧
    (∀ (v : VoiceId) (n : Int), step s = .fault (.freqNotFinite v n) →
      engineNext s ∧ s.seq.phase = .frame ∧ isFinite (noteFrequency n) = false ∧
      (v = .arp ∧ s.seq.k = 2 ∧ s.ev.ev16 = true ∧ s.sh.arpEn = true ∧
          n = noteNumber (walkerAdvance s) .arp ∨
        v = .pad ∧ s.seq.k = 4 ∧ s.ev.evPad = true ∧ s.sh.padEn = true ∧ n = noteNumber s .pad)) ∧
    ∀ a : Nat, step s = .fault (.bufferWrap a) →
      engineNext s ∧ s.seq.phase = .frame ∧ s.seq.k = 12 ∧
      a = s.blk.base.toNat + 4 * (s.seq.i * s.cfg.C.toNat) ∧ 2 ^ 32 < a + 4 * min s.cfg.C.toNat 2

/-! ### Generator, scale and walker -/

/-- R101, R102, R103: the three generator operations and the bounds of their results. Where their operands
and results stand is the model's choice (log 4). -/
def Obligations.GeneratorOperationsDraw : Prop :=
  (∀ s : State, exec .rngInit s = .next { s with rng := { s.rng with s := rngInit s.sh.seed } }) ∧
  (∀ s : State, ∃ t : State, exec .rngFraction s = .next t ∧
    t = { s with rng := { s.rng with s := (rngFrac s.rng.s).2, u := (rngFrac s.rng.s).1 } } ∧
    fle 0#32 t.rng.u = true ∧ flt t.rng.u 0x3F800000#32 = true) ∧
  ∀ s : State, ∃ t : State, exec .rngIntRange s = .next t ∧
    t = { s with rng := { s.rng with
      s := (intInRange s.rng.s s.rng.lo s.rng.hi).2, n := (intInRange s.rng.s s.rng.lo s.rng.hi).1 } } ∧
    (s.rng.lo.toInt ≤ s.rng.hi.toInt →
      s.rng.lo.toInt ≤ t.rng.n.toInt ∧ t.rng.n.toInt ≤ s.rng.hi.toInt) ∧
    (s.rng.lo = s.rng.hi → t.rng.n = s.rng.lo)

/-- R106 and R107: the generator's state changes only through its own operations and the operations that
call them. -/
def Obligations.GeneratorHasOnlyItsWriters : Prop :=
  ∀ (i : Instr) (s t : State), exec i s = .next t → ¬ constructs i →
    i ∉ [.rngInit, .rngFraction, .rngIntRange, .scaleRebuild, .walkerAdvance, .paramRefresh, .reconcile,
      .arpTrigger, .percGate, .percStep] →
    t.rng = s.rng

/-- R111, R112: the four rows of the ROM, and the walker re-drawn with one call over the row's indices.
That the operand is the shadow's selector is the model's choice (log 4). -/
def Obligations.ScaleRebuildRedrawsTheWalker : Prop :=
  ∀ s : State, ∃ row : List Int,
    row = (match s.sh.scale.toNat with
      | 0 => [0, 2, 4, 5, 7, 9, 11]
      | 1 => [0, 2, 3, 5, 7, 9, 10]
      | 2 => [0, 3, 5, 7, 10]
      | _ => [0, 2, 3, 5, 7, 8, 11]) ∧
    exec .scaleRebuild s = .next { s with
      rng := { s.rng with s := (intInRange s.rng.s 0#32 (BitVec.ofNat 32 (row.length - 1))).2 }
      walk := {
        tbl := row
        len := row.length
        idx := (intInRange s.rng.s 0#32 (BitVec.ofNat 32 (row.length - 1))).1.toInt.toNat } }

/-- R113: one call of RNG_INT_RANGE(−1, +1), and a saturating step; an empty table gives index 0 and no
draw. -/
def Obligations.WalkerAdvanceSaturates : Prop :=
  ∀ s : State,
    (s.walk.len = 0 → exec .walkerAdvance s = .next { s with walk := { s.walk with idx := 0 } }) ∧
    (0 < s.walk.len → ∃ (d : Int) (idx : Nat),
      d = (intInRange s.rng.s (-1#32) 1#32).1.toInt ∧ (d = -1 ∨ d = 0 ∨ d = 1) ∧
      exec .walkerAdvance s = .next { s with
        rng := { s.rng with s := (intInRange s.rng.s (-1#32) 1#32).2 }
        walk := { s.walk with idx := idx } } ∧
      (s.walk.idx < s.walk.len →
        (s.walk.idx = 0 → d = -1 → idx = 0) ∧
        (s.walk.idx = s.walk.len - 1 → d = 1 → idx = s.walk.len - 1) ∧
        (0 ≤ s.walk.idx + d → s.walk.idx + d ≤ s.walk.len - 1 → (idx : Int) = s.walk.idx + d)))

/-- R58. The premise on WALKER_ADVANCE rules out the empty table, which the invariant excludes. -/
def Obligations.WalkerStaysInsideTheTable : Prop :=
  (∀ s t : State, exec .scaleRebuild s = .next t → t.walk.idx < t.walk.len) ∧
  ∀ s t : State, 0 < s.walk.len → exec .walkerAdvance s = .next t → t.walk.idx < t.walk.len

/-! ### Clock -/

/-- R123, with its corner cases ±∞ and its example. -/
def Obligations.TimingRecomputeSetsThePeriods : Prop :=
  (∀ s : State,
    let bpmc := if flt s.sh.bpm (fofInt 20) then fofInt 20
      else if flt (fofInt 300) s.sh.bpm then fofInt 300 else s.sh.bpm
    let spb := fdiv (fmul s.cfg.fs (fofInt 60)) bpmc
    exec .timingRecompute s = .next { s with tim := {
      spb := spb, per16 := fdiv spb (fofInt 4), per8 := fdiv spb (fofInt 2),
      perPad := fmul spb (fofInt 2) } }) ∧
  (∀ s t : State, s.cfg.fs = fofInt 48000 → s.sh.bpm = fofInt 120 → exec .timingRecompute s = .next t →
    t.tim = ⟨fofInt 24000, fofInt 6000, fofInt 12000, fofInt 48000⟩) ∧
  (∀ s : State, s.sh.bpm = 0x7F800000#32 →
    exec .timingRecompute s = .next { s with tim := periodsOf s.cfg.fs (fofInt 300) }) ∧
  ∀ s : State, s.sh.bpm = 0xFF800000#32 →
    exec .timingRecompute s = .next { s with tim := periodsOf s.cfg.fs (fofInt 20) }

/-- R124: each counter is incremented, compared and wrapped by one subtraction; whether a unit is enabled
does not matter. -/
def Obligations.ClockTickWrapsBySubtraction : Prop :=
  ∀ s : State,
    let up (c : F32) : F32 := fadd c (fofInt 1)
    let fires (c p : F32) : Bool := fle p (up c)
    let after (c p : F32) : F32 := if fires c p then fsub (up c) p else up c
    exec .clockTick s = .next { s with
      ev := { s.ev with
        ev16 := fires s.clk.c16 s.tim.per16
        ev8 := fires s.clk.c8 s.tim.per8
        evPad := fires s.clk.cPad s.tim.perPad }
      clk := {
        c16 := after s.clk.c16 s.tim.per16
        c8 := after s.clk.c8 s.tim.per8
        cPad := after s.clk.cPad s.tim.perPad } }

/-- R126: from counters at 0.0 and unchanged integral periods (up to 2^24, so that every count is exact),
a counter's event falls on tick n exactly when its period divides n. -/
def Obligations.ClockFiresOnMultiplesOfThePeriod : Prop :=
  ∀ (s : State) (p16 p8 pPad : Nat),
    1 ≤ p16 → p16 ≤ 2 ^ 24 → 1 ≤ p8 → p8 ≤ 2 ^ 24 → 1 ≤ pPad → pPad ≤ 2 ^ 24 →
    s.tim.per16 = fofInt p16 → s.tim.per8 = fofInt p8 → s.tim.perPad = fofInt pPad →
    s.clk = ⟨0#32, 0#32, 0#32⟩ → ∀ n : Nat, 1 ≤ n →
      ((ticks n s).ev.ev16 = true ↔ p16 ∣ n) ∧ ((ticks n s).ev.ev8 = true ↔ p8 ∣ n) ∧
      ((ticks n s).ev.evPad = true ↔ pPad ∣ n) ∧
      (ticks n s).clk = ⟨fofInt (n % p16 : Nat), fofInt (n % p8 : Nat), fofInt (n % pPad : Nat)⟩

/-! ### Melodic voices -/

/-- R131, R114, R237: the note number in unbounded integers, its frequency, and the fault of a frequency
that is not finite. EXP2 is OPEN. -/
def Obligations.NoteFreqFollowsTheMidiLaw : Prop :=
  ∀ (v : VoiceId) (s : State) (n : Int) (f : F32),
    n = s.sh.root.toInt + (if s.walk.len = 0 then 0 else s.walk.tbl.getD s.walk.idx 0) +
      (s.cfg.voice v).transpose.toInt →
    f = fmul (fofInt 440) (Config.exp2 (fdiv (fofInt (n - 69)) (fofInt 12))) →
    (isFinite f = true →
      exec (noteFreqOf v) s = .next (s.setVoice v { s.voice v with freq := f })) ∧
    (isFinite f = false → exec (noteFreqOf v) s = .fault (.freqNotFinite v n))

/-- R133: both voices jump to 1.0 and restart their time; only the pad resets its phases. -/
def Obligations.VoiceTriggerRestartsTheEnvelope : Prop :=
  ∀ s : State,
    exec .voiceTriggerArp s =
      .next { s with arp := { s.arp with level := 0x3F800000#32, elapsed := 0#32 } } ∧
    exec .voiceTriggerPad s =
      .next { s with pad := { s.pad with
        level := 0x3F800000#32, elapsed := 0#32, ph1 := 0#32, ph2 := 0#32 } }

/-- R134, line by line, for both voices. EXP2 and SHAPE_MIX are OPEN. -/
def Obligations.VoiceStepAddsThePannedVoice : Prop :=
  ∀ (v : VoiceId) (s : State),
    let x := s.voice v
    let c := s.cfg.voice v
    let b := s.sh.brightness
    let wrap (p : F32) : F32 := if fle twoPi p then fsub p twoPi else p
    let saw (ph : F32) : F32 := fmul (fofInt 2) (fsub (fdiv ph twoPi) (fround (fdiv ph twoPi)))
    let cents := fadd (fofInt 10) (fmul (fofInt 60) b)
    let f2 := fmul x.freq (Config.exp2 (fdiv cents (fofInt 1200)))
    let ph1 := wrap (fadd x.ph1 (fdiv (fmul twoPi x.freq) s.cfg.fs))
    let ph2 := wrap (fadd x.ph2 (fdiv (fmul twoPi f2) s.cfg.fs))
    let raw := fmul (fadd (saw ph1) (saw ph2)) (fofRatio 1 2)
    let elapsed := fadd x.elapsed (fofInt 1)
    let target := if flt elapsed c.attackS then fofInt 1 else c.sustain
    let rate := fadd (fofRatio 1 1000) (fmul (fofRatio 7 1000) b)
    let level := fmul (fadd x.level (fmul rate (fsub target x.level)))
      (fsub (fofInt 1) (fdiv (fofInt 1) c.releaseS))
    let k := shapeMix b s.sh.motion
    let shaped := fadd (fmul (fsub (fofInt 1) k) raw) (fmul k (fabs raw))
    let clipped := fclamp shaped (fofInt (-1)) (fofInt 1)
    let y := fsub clipped (fdiv (fmul (fmul clipped clipped) clipped) (fofInt 3))
    let h := fmul (fmul (fmul y level) (fofRatio 1 4)) (fofRatio 1 2)
    exec (voiceStepOf v) s = .next { s.setVoice v
        { ph1 := ph1, ph2 := ph2, freq := x.freq, level := level, elapsed := elapsed } with
      mix := { s.mix with
        L := fadd s.mix.L (fmul h (fsub (fofInt 1) c.pan))
        R := fadd s.mix.R (fmul h (fadd (fofInt 1) c.pan)) } }

/-- R57: the envelope invariant, in rounded arithmetic, under R57's conditions on the preset and the
sample rate. -/
def Obligations.EnvelopeStaysBetweenZeroAndOne : Prop :=
  ∀ (v : VoiceId) (s : State), inUnit (s.voice v).level = true →
    inUnit (s.cfg.voice v).sustain = true → fle (fofInt 1) (s.cfg.voice v).releaseS = true →
    inUnit s.sh.brightness = true →
    ∃ t : State, exec (voiceStepOf v) s = .next t ∧ inUnit (t.voice v).level = true

/-- R136, R137: the two triggers are their parts in order, and the next state they answer wherever the
note's frequency is finite (R237: it is no fault there). The arpeggio's note is the one that the advanced
walker selects; the pad reads the walker without advancing it. -/
def Obligations.TriggersRunTheirParts : Prop :=
  (∀ s : State, exec .arpTrigger s =
    andThen (exec .walkerAdvance s) fun t => andThen (exec .noteFreqArp t) fun u =>
      exec .voiceTriggerArp u) ∧
  (∀ s : State, exec .padTrigger s =
    andThen (exec .noteFreqPad s) fun u => exec .voiceTriggerPad u) ∧
  (∀ (s w : State) (f : F32), exec .walkerAdvance s = .next w → f = noteFrequency (noteNumber w .arp) →
    isFinite f = true →
    exec .arpTrigger s = .next { w with arp := { s.arp with
      freq := f, level := 0x3F800000#32, elapsed := 0#32 } }) ∧
  (∀ (s : State) (f : F32), f = noteFrequency (noteNumber (walkerAdvance s) .arp) → isFinite f = true →
    exec .walkerAdvance s = .next (walkerAdvance s) ∧
    exec .arpTrigger s = .next { walkerAdvance s with arp := { s.arp with
      freq := f, level := 0x3F800000#32, elapsed := 0#32 } }) ∧
  ∀ (s : State) (f : F32), f = noteFrequency (noteNumber s .pad) → isFinite f = true →
    exec .padTrigger s = .next { s with pad := {
      freq := f, level := 0x3F800000#32, elapsed := 0#32, ph1 := 0#32, ph2 := 0#32 } }

/-! ### Percussion -/

/-- R152: the envelope jumps to 1.0, the filter states and all else stay. -/
def Obligations.PercTriggerSetsTheEnvelope : Prop :=
  ∀ s : State, exec .percTrigger s = .next { s with perc := { s.perc with env := 0x3F800000#32 } }

/-- R153: one draw u, percFire is u < PERC_PROB(density), and a hit sets the envelope. PERC_PROB is
OPEN. -/
def Obligations.PercGateDrawsOnce : Prop :=
  ∀ s : State,
    let fire := flt (rngFrac s.rng.s).1 (percProb s.sh.density)
    exec .percGate s = .next { s with
      rng := { s.rng with s := (rngFrac s.rng.s).2 }
      ev := { s.ev with percFire := fire }
      perc := { s.perc with env := if fire then 0x3F800000#32 else s.perc.env } }

/-- R154, line by line: silence without a draw below PERC_EPS, else one draw through the filter pair,
added centred, and then the decay. PERC_EPS and PERC_COEF are OPEN. -/
def Obligations.PercStepAddsTheFilteredNoise : Prop :=
  ∀ s : State,
    (flt s.perc.env percEps = true → exec .percStep s = .next s) ∧
    (flt s.perc.env percEps = false →
      let noise := fsub (fmul (fofInt 2) (rngFrac s.rng.s).1) (fofInt 1)
      let fc := fadd (fofInt 2000)
        (fmul (fofInt 4000) (fadd (fofRatio 2 5) (fmul (fofRatio 3 5) s.sh.brightness)))
      let a := Config.percCoef (fclamp (fdiv fc s.cfg.fs) 0#32 (fofRatio 1 4))
      let lp1 := fadd s.perc.lp1 (fmul a (fsub noise s.perc.lp1))
      let lp2 := fadd s.perc.lp2 (fmul a (fsub lp1 s.perc.lp2))
      let y := fclamp (fsub lp1 lp2) (fofInt (-1)) (fofInt 1)
      let c := fmul (fmul (fmul y s.perc.env) (fofRatio 3 5)) (fofRatio 35 100)
      exec .percStep s = .next { s with
        rng := { s.rng with s := (rngFrac s.rng.s).2 }
        perc := { env := fmul s.perc.env s.cfg.percDecay, lp1 := lp1, lp2 := lp2 }
        mix := { s.mix with L := fadd s.mix.L c, R := fadd s.mix.R c } })

/-- R154, R155: the percussion envelope stays in [0, 1] and never rises in a step, for a decay factor in
[0, 1] (POW, which gives it, is OPEN). -/
def Obligations.PercEnvelopeStaysBetweenZeroAndOne : Prop :=
  ∀ s : State, inUnit s.perc.env = true → inUnit s.cfg.percDecay = true →
    ∃ t : State, exec .percStep s = .next t ∧ inUnit t.perc.env = true ∧
      fle t.perc.env s.perc.env = true

/-! ### Renderer -/

/-- R172: each delay line is fed its own effected signal; the gain at brightness 0, 1 and 0.5. Where yL and
yR stand is the model's choice (log 25). -/
def Obligations.MixDelayFeedsBackTheEffectedSignal : Prop :=
  (∀ s : State,
    let g := fadd (fofRatio 12 100) (fmul (fofRatio 1 4) s.sh.brightness)
    let yL := fadd s.mix.L (fmul g s.dly.L)
    let yR := fadd s.mix.R (fmul g s.dly.R)
    exec .mixDelay s = .next { s with
      dly := { L := yL, R := yR }, mix := { s.mix with yL := yL, yR := yR } }) ∧
  delayGain 0#32 = fofRatio 12 100 ∧ delayGain 0x3F800000#32 = fofRatio 37 100 ∧
  delayGain 0x3F000000#32 = 0x3E7AE148#32

/-- R173, R175: the two followers and the three magnitudes; both squares, whatever the channel count.
BAND_K_LO and BAND_K_HI are OPEN. -/
def Obligations.BandsAndLoudnessAccumulate : Prop :=
  ∀ s : State,
    (let mono := fmul (fadd s.mix.yL s.mix.yR) (fofRatio 1 2)
    let lo := fadd s.band.lo (fmul Config.bandKLo (fsub mono s.band.lo))
    let hi := fadd s.band.hi (fmul Config.bandKHi (fsub mono s.band.hi))
    exec .bandFollow s = .next { s with
      band := { lo := lo, hi := hi }
      acc := { s.acc with
        lo := fadd s.acc.lo (fabs lo)
        mid := fadd s.acc.mid (fabs (fsub hi lo))
        hi := fadd s.acc.hi (fabs (fsub mono hi)) } }) ∧
    exec .loudnessAccum s = .next { s with acc := { s.acc with
      sq := fadd (fadd s.acc.sq (fmul s.mix.yL s.mix.yL)) (fmul s.mix.yR s.mix.yR) } }

/-- R174, R238, R61: the frame's address, BufferWrap with nothing written, the words' bytes in
little-endian order, and every other byte of memory as before. The premise is the invariant's. -/
def Obligations.FrameWriteStoresOnlyTheFrame : Prop :=
  ∀ s : State, 0 < s.cfg.C.toInt →
    let a0 := s.blk.base.toNat + 4 * (s.seq.i * s.cfg.C.toNat)
    let last := a0 + 4 * min s.cfg.C.toNat 2 - 1
    (2 ^ 32 - 1 < last → exec .frameWrite s = .fault (.bufferWrap a0)) ∧
    (last ≤ 2 ^ 32 - 1 → ∃ t : State, exec .frameWrite s = .next t ∧ t = { s with mem := t.mem } ∧
      (∀ j < 4, Memory.read t.mem (a0 + j) = some (s.mix.yL.extractLsb' (8 * j) 8)) ∧
      (2 ≤ s.cfg.C.toNat → ∀ j < 4,
        Memory.read t.mem (a0 + 4 + j) = some (s.mix.yR.extractLsb' (8 * j) 8)) ∧
      ∀ a : Nat, a < a0 ∨ last < a → Memory.read t.mem a = Memory.read s.mem a)

/-- R70, R252: no instruction but FRAME_WRITE changes a byte of host memory, the construction included. -/
def Obligations.OnlyFrameWriteTouchesMemory : Prop :=
  ∀ (i : Instr) (s t : State), i ≠ .frameWrite → exec i s = .next t →
    ∀ a : Nat, Memory.read t.mem a = Memory.read s.mem a

/-- R167, R236: what the refresh reads and copies, its clamps, the reseed only on a changed seed, HOSTV = 0,
and the fault of a NaN. Which register a fault names when several are NaN is the model's choice (log
28), as is keeping the values read in `refr` (log 24). -/
def Obligations.ParamRefreshCopiesTheRegisters : Prop :=
  ∀ s : State,
    let g := s.reg
    let unit (x : F32) : F32 :=
      if flt x 0x00000000#32 then 0x00000000#32
      else if flt 0x3F800000#32 x then 0x3F800000#32 else x
    (g.ctrl.hostv = false → exec .paramRefresh s = .next { s with
      acc := ⟨0#32, 0#32, 0#32, 0#32⟩, refr := { s.refr with hv := false } }) ∧
    (g.ctrl.hostv = true → isNaN g.tempo = false → isNaN g.density = false →
      isNaN g.brightness = false → isNaN g.motion = false →
      exec .paramRefresh s = .next { s with
        acc := ⟨0#32, 0#32, 0#32, 0#32⟩
        refr := ⟨true, g.tempo, g.root, g.scale, g.density, g.brightness, g.motion, g.seed, g.enable⟩
        rng := if g.seed = s.sh.seed then s.rng else { s.rng with s := rngInit g.seed }
        sh := {
          bpm := g.tempo
          root := g.root
          scale := g.scale
          density := unit g.density
          brightness := unit g.brightness
          motion := unit g.motion
          seed := g.seed
          arpEn := g.enable.getLsbD 0
          percEn := g.enable.getLsbD 1
          padEn := g.enable.getLsbD 2 } }) ∧
    (g.ctrl.hostv = true →
      isNaN g.tempo = true ∨ isNaN g.density = true ∨ isNaN g.brightness = true ∨ isNaN g.motion = true →
      ∃ p : ParamReg, exec .paramRefresh s = .fault (.paramNaN p) ∧
        isNaN (match p with
          | .tempo => g.tempo
          | .density => g.density
          | .brightness => g.brightness
          | .motion => g.motion) = true)

/-- R168: the periods are recomputed only if the raw tempo moved by more than BPM_EPS, the table rebuilt
only if the selector changed. BPM_EPS is OPEN; NaN differences (∞ − ∞) compare false. -/
def Obligations.ReconcileRecomputesWhatChanged : Prop :=
  ∀ s : State,
    let moved := flt bpmEps (fabs (fsub s.sh.bpm s.recon.lastBpm))
    let row := scaleRow s.sh.scale
    let draw := intInRange s.rng.s 0#32 (BitVec.ofNat 32 (row.length - 1))
    exec .reconcile s = .next { s with
      tim := if moved then periodsOf s.cfg.fs s.sh.bpm else s.tim
      walk := if s.sh.scale = s.recon.lastScale then s.walk
        else { tbl := row, len := row.length, idx := draw.1.toInt.toNat }
      rng := if s.sh.scale = s.recon.lastScale then s.rng else { s.rng with s := draw.2 }
      recon := {
        lastBpm := if moved then s.sh.bpm else s.recon.lastBpm
        lastScale := s.sh.scale } }

/-- R177: with the registers unchanged, a second refresh changes nothing that the first has not, and a second
reconciliation recomputes nothing. -/
def Obligations.RefreshAndReconcileSettle : Prop :=
  (∀ s t : State, exec .paramRefresh s = .next t → exec .paramRefresh t = .next t) ∧
  ∀ s t : State, exec .reconcile s = .next t → exec .reconcile t = .next t

/-- R176: the seven block values, the smoothing by 0.2, then RENDER and BUSY. -/
def Obligations.MeterPublishSmoothsAndEnds : Prop :=
  ∀ s : State,
    let n := fofInt (s.blk.N.toNat : Int)
    let towards (m v : F32) : F32 := fadd m (fmul (fofRatio 1 5) (fsub v m))
    exec .meterPublish s = .next { s with
      meter := {
        m0 := towards s.meter.m0 (fsqrt (fdiv s.acc.sq (fofInt (2 * (s.blk.N.toNat : Int)))))
        m1 := towards s.meter.m1 s.arp.level
        m2 := towards s.meter.m2 s.pad.level
        m3 := towards s.meter.m3 s.perc.env
        m4 := towards s.meter.m4 (fdiv s.acc.lo n)
        m5 := towards s.meter.m5 (fdiv s.acc.mid n)
        m6 := towards s.meter.m6 (fdiv s.acc.hi n) }
      reg := { s.reg with render := s.blk.N, ctrl := { s.reg.ctrl with busy := false } } }

/-- R178: each of the seven meters that lies between 0 and its finite block value never falls and never
exceeds the value (`blockValue` is the value that METER_PUBLISH smooths towards, R176). -/
def Obligations.SmoothedMeterNeverOvershoots : Prop :=
  ∀ s : State, ∃ t : State, exec .meterPublish s = .next t ∧
    ∀ k < 7, isFinite (blockValue k s) = true → fle 0#32 (s.meter.get k) = true →
      fle (s.meter.get k) (blockValue k s) = true →
      fle (s.meter.get k) (t.meter.get k) = true ∧ fle (t.meter.get k) (blockValue k s) = true

/-! ### Reset and construction -/

/-- R255, R254, R132, R151: every field after the construction sequence, and ParamNaN. The model's own
latches (mix, refr, seq.sub and the operand and result latches of rng) take their reset values (log
29). -/
def Obligations.ConstructionSequence : Prop :=
  ∀ s : State,
    let g := s.reg
    let unit (x : F32) : F32 :=
      if flt x 0x00000000#32 then 0x00000000#32
      else if flt 0x3F800000#32 x then 0x3F800000#32 else x
    let rate := if 0 < g.cfgRate.toInt then g.cfgRate else 48000#32
    let fs := fofInt rate.toInt
    let preset (v : VoiceId) : VoiceCfg :=
      { attackS := fmul (Config.attack v) fs
        decayS := fmul (Config.decay v) fs
        sustain := Config.sustain v
        releaseS := fmul (Config.release v) fs
        pan := pan v
        transpose := Config.transpose v }
    let row := scaleRow g.scale
    let draw := intInRange (rngInit g.seed) 0#32 (BitVec.ofNat 32 (row.length - 1))
    (isNaN g.tempo = false → isNaN g.density = false → isNaN g.brightness = false →
      isNaN g.motion = false →
      exec .construct s = .next
        { reg := { g with render := 0#32, ctrl := { g.ctrl with busy := false } }
          cfg := {
            rate := rate
            C := if 0 < g.cfgChan.toInt then g.cfgChan else 2#32
            fs := fs
            percDecay := Config.pow (fofRatio 1 1000) (fdiv (fofInt 1) (fmul (fofRatio 4 100) fs))
            arp := preset .arp
            pad := preset .pad }
          ev := ⟨false, false, false, false⟩
          sh := {
            bpm := g.tempo
            root := g.root
            scale := g.scale
            density := unit g.density
            brightness := unit g.brightness
            motion := unit g.motion
            seed := g.seed
            arpEn := g.enable.getLsbD 0
            percEn := g.enable.getLsbD 1
            padEn := g.enable.getLsbD 2 }
          recon := { lastBpm := g.tempo, lastScale := g.scale }
          rng := { s := draw.2, lo := 0#32, hi := 0#32, n := 0#32, u := 0#32 }
          tim := periodsOf fs g.tempo
          clk := ⟨0#32, 0#32, 0#32⟩
          walk := { tbl := row, len := row.length, idx := draw.1.toInt.toNat }
          arp := ⟨0#32, 0#32, 0#32, 0#32, 0#32⟩
          pad := ⟨0#32, 0#32, 0#32, 0#32, 0#32⟩
          perc := ⟨0#32, 0#32, 0#32⟩
          mix := ⟨0#32, 0#32, 0#32, 0#32⟩
          dly := ⟨0#32, 0#32⟩
          band := ⟨0#32, 0#32⟩
          acc := ⟨0#32, 0#32, 0#32, 0#32⟩
          meter := ⟨0#32, 0#32, 0#32, 0#32, 0#32, 0#32, 0#32⟩
          seq := ⟨.idle, 0, 0, 0⟩
          blk := ⟨0#32, 0#32⟩
          refr := ⟨false, 0#32, 0#32, 0#2, 0#32, 0#32, 0#32, 0#32, 0#3⟩
          mem := s.mem
          rdata := s.rdata
          sched := s.sched }) ∧
    (isNaN g.tempo = true ∨ isNaN g.density = true ∨ isNaN g.brightness = true ∨
        isNaN g.motion = true →
      ∃ p : ParamReg, exec .construct s = .fault (.paramNaN p))

/-- R251: every register after power-on reset, and that the rest of the reset state is what the
construction sequence makes of those registers, whatever the state before (R252, R255). That L, R and the
model's latches (mix, refr, seq.sub, rng) are among it with these values, and that the last answer and
the commands to come are kept, is the model's choice (logs 29 and 38). -/
def Obligations.PowerOnResetConstructs : Prop :=
  State.reset.reg =
    { ctrl := ⟨true, false, false, 0#3⟩, tempo := 0x42F00000#32, root := 60#32, scale := 0#2,
      density := 0x3EB33333#32, brightness := 0x3F000000#32, motion := 0#32, seed := 1#32,
      enable := 0b111#3, cfgRate := 48000#32, cfgChan := 2#32, bufBase := 0#30, render := 0#32 } ∧
  ∀ s : State, s.reg = State.reset.reg →
    exec .construct s =
      .next { State.reset with mem := s.mem, rdata := s.rdata, sched := s.sched }

/-! ### Rules about the whole machine -/

/-- R22, R39 to R43, R45 to R48, R50 to R54, R56, R115: each group of the engine's state has only the
writers that its rule names, and the construction. The generator stands in GeneratorHasOnlyItsWriters,
host memory in OnlyFrameWriteTouchesMemory. What the sequencer does around an instruction (the position,
and the clearing of percFire, L and R in a frame) is the step's: StepRunsTheDecodedInstruction and
SequencerFollowsTheBlockPhases. -/
def Obligations.StateGroupsHaveOnlyTheirWriters : Prop :=
  ∀ (i : Instr) (s t : State), exec i s = .next t → ¬ constructs i →
    t.cfg = s.cfg ∧
    (i ≠ .clockTick → t.ev = { s.ev with percFire := t.ev.percFire }) ∧
    (i ≠ .percGate → t.ev.percFire = s.ev.percFire) ∧
    (i ∉ [.voiceStepArp, .voiceStepPad, .percStep] → t.mix.L = s.mix.L ∧ t.mix.R = s.mix.R) ∧
    (i ≠ .mixDelay → t.mix.yL = s.mix.yL ∧ t.mix.yR = s.mix.yR) ∧
    ((∀ d, i ≠ .wrRender d) → t.seq = s.seq ∧ t.blk = s.blk) ∧
    (i ≠ .paramRefresh → t.sh = s.sh ∧ t.refr = s.refr) ∧
    (i ≠ .reconcile → t.recon = s.recon) ∧
    (i ∉ [.timingRecompute, .reconcile] → t.tim = s.tim) ∧
    (i ≠ .clockTick → t.clk = s.clk) ∧
    (i ∉ [.scaleRebuild, .walkerAdvance, .arpTrigger, .reconcile] → t.walk = s.walk) ∧
    (i ∉ [.noteFreqArp, .voiceTriggerArp, .voiceStepArp, .arpTrigger] → t.arp = s.arp) ∧
    (i ∉ [.noteFreqPad, .voiceTriggerPad, .voiceStepPad, .padTrigger] → t.pad = s.pad) ∧
    (i ∉ [.percTrigger, .percGate, .percStep] → t.perc = s.perc) ∧
    (i ≠ .mixDelay → t.dly = s.dly) ∧
    (i ≠ .bandFollow → t.band = s.band) ∧
    (i ∉ [.paramRefresh, .bandFollow, .loudnessAccum] → t.acc = s.acc) ∧
    (i ≠ .meterPublish → t.meter = s.meter)

/-- R55, R56, R67: a bus command other than WR RENDER and WR RESET changes nothing but the register block,
in which BUSY and the read-back of RENDER stay, and (a read) the word it returns. -/
def Obligations.PlainCommandsLeaveTheDatapath : Prop :=
  ∀ (i : Instr) (s t : State), plainCommand i → exec i s = .next t →
    t = { s with reg := t.reg, rdata := t.rdata } ∧
    t.reg.ctrl.busy = s.reg.ctrl.busy ∧ t.reg.render = s.reg.render ∧
    (t.rdata = s.rdata ∨ t.reg = s.reg)

/-- R169: while RECONCILE or a frame runs, no register of the host block reaches the engine: a step from
two states that differ only in them does the same to everything else. -/
def Obligations.ParametersDoNotReachARunningFrame : Prop :=
  ∀ (s : State) (g : Regs), engineNext s → s.seq.phase = .reconcile ∨ s.seq.phase = .frame →
    step { s with reg := g } = mapNext (fun t => { t with reg := g }) (step s)

/-- R177: a frame does not depend on its index, on the block's length or on its base, but for the address
it writes to. -/
def Obligations.FrameIndependentOfTheBlockPosition : Prop :=
  ∀ (s : State) (q : Seq) (b : Block),
    b.base.toNat + 4 * (q.i * s.cfg.C.toNat) = s.blk.base.toNat + 4 * (s.seq.i * s.cfg.C.toNat) →
    frameProgram { s with seq := q, blk := b } =
      mapNext (fun t => { t with seq := q, blk := b }) (frameProgram s)

/-- R173, D54: the band followers, the block accumulators and the meters never feed the audio: a frame from
two states that differ only in them does the same to everything else. -/
def Obligations.MetersNeverReachTheAudio : Prop :=
  ∀ (s : State) (b : Band) (a : Acc) (m : Meters),
    match frameProgram s, frameProgram { s with band := b, acc := a, meter := m } with
    | .next t, .next u => u = { t with band := u.band, acc := u.acc, meter := u.meter }
    | .fault e, .fault f => e = f
    | _, _ => False

/-- R171, R266: in a frame, a disabled unit is frozen and draws nothing, and with all three disabled the
output is the echo of the delay lines. -/
def Obligations.DisabledUnitsAreFrozen : Prop :=
  ∀ s t : State, frameProgram s = .next t →
    (s.sh.arpEn = false → t.arp = s.arp ∧ t.walk = s.walk) ∧
    (s.sh.padEn = false → t.pad = s.pad) ∧
    (s.sh.percEn = false → t.perc = s.perc ∧ t.ev.percFire = false) ∧
    (s.sh.arpEn = false → s.sh.percEn = false → t.rng = s.rng) ∧
    (s.sh.arpEn = false → s.sh.padEn = false → s.sh.percEn = false →
      t.mix.L = 0#32 ∧ t.mix.R = 0#32 ∧
      t.dly.L = fadd 0#32 (fmul (delayGain s.sh.brightness) s.dly.L) ∧
      t.dly.R = fadd 0#32 (fmul (delayGain s.sh.brightness) s.dly.R))

/-! ### Host programs -/

/-- R96, R222, R74, R216: RENDERW n on an idle engine. When it ends, whatever number of engine turns falls
before each of its commands, it has read BUSY 0 and returns n, and the block of n frames is over. Where
the block raises no model fault and no other command waits, a poll before the block's last engine turn
keeps it polling, and one after it ends it. The number of engine turns is the model's reading of R186
(logs 20, 21 and 22). -/
def Obligations.RenderWaitReturnsTheFrameCount : Prop :=
  (∀ (s t : State) (n : Word) (turns : List Nat), Inv s → s.reg.ctrl.busy = false →
    runHost (turns.map fun k => List.replicate k .engine) (renderWait n) s = .done (.next t) →
    t.rdata = n ∧ t.reg.render = n ∧ t.reg.ctrl.busy = false ∧ t.seq = ⟨.idle, 0, 0, 0⟩) ∧
  (∀ s : State, s.reg.ctrl.busy = false →
    runHost [[], [], []] (renderWait 0#32) s =
      .done (.next { s with reg := { s.reg with render := 0#32 }, rdata := 0#32 })) ∧
  ∀ (s u : State) (n : Word), Inv s → s.reg.ctrl.busy = false → s.sched = [] → n ≠ 0#32 →
    let turns (k : Nat) : List Event := List.replicate k .engine
    let last := blockSteps s.reg.ctrl.hostv n.toNat
    runEvents (.code (encode (.wrRender n)) :: turns last) s = .next u →
    runHost [[], turns last, []] (renderWait n) s = .done (.next { u with rdata := n }) ∧
    ∀ k < last, ∃ v : State,
      runHost [[], turns k] (renderWait n) s = .waiting [.pollIdle, .command (encode .rdRender)] v ∧
      v.rdata.getLsbD 1 = true ∧ v.reg.render = s.reg.render

end
end

