-- ==== Sys2Proof/Laws/Float.lean ====
section
/-! SUPPORT. Facts about the binary32 operations that later proofs cite instead of unfolding them: the
values of the constants, the order, the clamp to [0, 1], and the bounds of the OPEN parameters. -/

set_option Elab.async false

namespace Sys2Proof.Machine

/-! ### Constants -/

@[simp] theorem fofInt_zero : fofInt 0 = 0#32 := by decide +kernel
@[simp] theorem fofInt_one : fofInt 1 = 0x3F800000#32 := by decide +kernel
@[simp] theorem fofInt_neg_one : fofInt (-1) = 0xBF800000#32 := by decide +kernel
@[simp] theorem fofInt_two : fofInt 2 = 0x40000000#32 := by decide +kernel
@[simp] theorem fofRatio_half : fofRatio 1 2 = 0x3F000000#32 := by decide +kernel
@[simp] theorem fofRatio_quarter : fofRatio 1 4 = 0x3E800000#32 := by decide +kernel

/-! ### The order -/

theorem fle_iff (x y : F32) :
    fle x y = true ↔ isNaN x = false ∧ isNaN y = false ∧ fkey x ≤ fkey y := by
  simp [fle, and_assoc]

theorem flt_iff (x y : F32) :
    flt x y = true ↔ isNaN x = false ∧ isNaN y = false ∧ fkey x < fkey y := by
  simp [flt, and_assoc]

theorem flt_self (x : F32) : flt x x = false := by simp [flt]

/-- Of two values that are no NaN, one is below the other or they compare the other way. -/
theorem fle_of_not_flt (x y : F32) (hx : isNaN x = false) (hy : isNaN y = false)
    (h : flt x y = false) : fle y x = true := by
  have : ¬ fkey x < fkey y := by simpa [flt, hx, hy] using h
  rw [fle_iff]
  exact ⟨hy, hx, by omega⟩

theorem isNaN_of_inUnit (x : F32) (h : inUnit x = true) : isNaN x = false := by
  rw [inUnit, Bool.and_eq_true, fle_iff] at h
  exact h.1.2.1

theorem inUnit_zero : inUnit 0#32 = true := by decide +kernel

theorem inUnit_one : inUnit (fofInt 1) = true := by decide +kernel

/-- A clamp to [0, 1] of a value that is no NaN lies in [0, 1]. -/
theorem inUnit_clampUnit (x : F32) (h : isNaN x = false) : inUnit (clampUnit x) = true := by
  unfold clampUnit fclamp
  split
  · exact inUnit_zero
  · split
    · exact inUnit_one
    · rename_i h0 h1
      have hz : isNaN 0#32 = false := by decide +kernel
      have ho : isNaN (fofInt 1) = false := by decide +kernel
      rw [inUnit, Bool.and_eq_true]
      exact ⟨fle_of_not_flt _ _ h hz (by simpa using h0), fle_of_not_flt _ _ ho h (by simpa using h1)⟩

/-- The clamp to [0, 1] leaves a value in [0, 1] as it is. -/
theorem clampUnit_of_inUnit (x : F32) (h : inUnit x = true) : clampUnit x = x := by
  rw [inUnit, Bool.and_eq_true, fle_iff, fle_iff] at h
  have h0 : flt x 0#32 = false := by
    rw [Bool.eq_false_iff]
    intro hc
    rw [flt_iff] at hc
    omega
  have h1 : flt (fofInt 1) x = false := by
    rw [Bool.eq_false_iff]
    intro hc
    rw [flt_iff] at hc
    omega
  simp only [clampUnit, fclamp, h0, h1, Bool.false_eq_true, if_false]

theorem isNaN_nanOf (op : FloatOp) (x y : F32) : isNaN (nanOf op x y) = true := by
  unfold nanOf
  split
  · assumption
  · decide +kernel

/-! ### The bounds of the OPEN parameters -/

theorem inFraction_rngFrac (s : Nat) : inFraction (rngFrac s).1 = true := by
  unfold rngFrac
  dsimp only
  split
  · assumption
  · decide +kernel

theorem intInRange_bounds (s : Nat) (lo hi : Word) (h : lo.toInt ≤ hi.toInt) :
    lo.toInt ≤ (intInRange s lo hi).1.toInt ∧ (intInRange s lo hi).1.toInt ≤ hi.toInt := by
  unfold intInRange
  dsimp only
  split
  · exact ⟨Int.le_refl _, h⟩
  · rename_i hc
    by_contra hn
    exact hc ⟨h, hn⟩

theorem fle_zero_bpmEps : fle 0#32 bpmEps = true := by
  unfold bpmEps
  split
  · assumption
  · decide +kernel

theorem flt_zero_percEps : flt 0#32 percEps = true := by
  unfold percEps
  split
  · assumption
  · decide +kernel

theorem inUnit_shapeMix (b m : F32) : inUnit (shapeMix b m) = true := by
  unfold shapeMix
  split
  · assumption
  · decide +kernel

theorem inUnit_percProb (d : F32) : inUnit (percProb d) = true := by
  unfold percProb
  split
  · assumption
  · decide +kernel

theorem pan_bounds (v : VoiceId) :
    fle (fofInt (-1)) (pan v) = true ∧ fle (pan v) (fofInt 1) = true := by
  unfold pan
  split
  · rename_i h
    simpa using h
  · decide +kernel

end Sys2Proof.Machine
end

