-- ==== Sys2Proof/Laws/State.lean ====
section
/-! SUPPORT. One lemma per field and per named update of the state, so that no later proof unfolds a
record update: what an update changes and what it leaves alone. -/

set_option Elab.async false

namespace Sys2Proof.Machine

/-! ### busReply -/

@[simp] theorem busReply_reg (w : Word) (s : State) : (busReply w s).reg = s.reg := rfl

@[simp] theorem busReply_cfg (w : Word) (s : State) : (busReply w s).cfg = s.cfg := rfl

@[simp] theorem busReply_ev (w : Word) (s : State) : (busReply w s).ev = s.ev := rfl

@[simp] theorem busReply_sh (w : Word) (s : State) : (busReply w s).sh = s.sh := rfl

@[simp] theorem busReply_recon (w : Word) (s : State) : (busReply w s).recon = s.recon := rfl

@[simp] theorem busReply_rng (w : Word) (s : State) : (busReply w s).rng = s.rng := rfl

@[simp] theorem busReply_tim (w : Word) (s : State) : (busReply w s).tim = s.tim := rfl

@[simp] theorem busReply_clk (w : Word) (s : State) : (busReply w s).clk = s.clk := rfl

@[simp] theorem busReply_walk (w : Word) (s : State) : (busReply w s).walk = s.walk := rfl

@[simp] theorem busReply_arp (w : Word) (s : State) : (busReply w s).arp = s.arp := rfl

@[simp] theorem busReply_pad (w : Word) (s : State) : (busReply w s).pad = s.pad := rfl

@[simp] theorem busReply_perc (w : Word) (s : State) : (busReply w s).perc = s.perc := rfl

@[simp] theorem busReply_mix (w : Word) (s : State) : (busReply w s).mix = s.mix := rfl

@[simp] theorem busReply_dly (w : Word) (s : State) : (busReply w s).dly = s.dly := rfl

@[simp] theorem busReply_band (w : Word) (s : State) : (busReply w s).band = s.band := rfl

@[simp] theorem busReply_acc (w : Word) (s : State) : (busReply w s).acc = s.acc := rfl

@[simp] theorem busReply_meter (w : Word) (s : State) : (busReply w s).meter = s.meter := rfl

@[simp] theorem busReply_seq (w : Word) (s : State) : (busReply w s).seq = s.seq := rfl

@[simp] theorem busReply_blk (w : Word) (s : State) : (busReply w s).blk = s.blk := rfl

@[simp] theorem busReply_refr (w : Word) (s : State) : (busReply w s).refr = s.refr := rfl

@[simp] theorem busReply_mem (w : Word) (s : State) : (busReply w s).mem = s.mem := rfl

@[simp] theorem busReply_rdata (w : Word) (s : State) :
    (busReply w s).rdata = w := rfl

@[simp] theorem busReply_sched (w : Word) (s : State) : (busReply w s).sched = s.sched := rfl

/-! ### busRefuse -/

@[simp] theorem busRefuse_reg (c : BusCause) (s : State) :
    (busRefuse c s).reg = { s.reg with ctrl := { s.reg.ctrl with
      buserr := true
      errcause := if s.reg.ctrl.buserr then s.reg.ctrl.errcause else c.code } } := rfl

@[simp] theorem busRefuse_cfg (c : BusCause) (s : State) : (busRefuse c s).cfg = s.cfg := rfl

@[simp] theorem busRefuse_ev (c : BusCause) (s : State) : (busRefuse c s).ev = s.ev := rfl

@[simp] theorem busRefuse_sh (c : BusCause) (s : State) : (busRefuse c s).sh = s.sh := rfl

@[simp] theorem busRefuse_recon (c : BusCause) (s : State) : (busRefuse c s).recon = s.recon := rfl

@[simp] theorem busRefuse_rng (c : BusCause) (s : State) : (busRefuse c s).rng = s.rng := rfl

@[simp] theorem busRefuse_tim (c : BusCause) (s : State) : (busRefuse c s).tim = s.tim := rfl

@[simp] theorem busRefuse_clk (c : BusCause) (s : State) : (busRefuse c s).clk = s.clk := rfl

@[simp] theorem busRefuse_walk (c : BusCause) (s : State) : (busRefuse c s).walk = s.walk := rfl

@[simp] theorem busRefuse_arp (c : BusCause) (s : State) : (busRefuse c s).arp = s.arp := rfl

@[simp] theorem busRefuse_pad (c : BusCause) (s : State) : (busRefuse c s).pad = s.pad := rfl

@[simp] theorem busRefuse_perc (c : BusCause) (s : State) : (busRefuse c s).perc = s.perc := rfl

@[simp] theorem busRefuse_mix (c : BusCause) (s : State) : (busRefuse c s).mix = s.mix := rfl

@[simp] theorem busRefuse_dly (c : BusCause) (s : State) : (busRefuse c s).dly = s.dly := rfl

@[simp] theorem busRefuse_band (c : BusCause) (s : State) : (busRefuse c s).band = s.band := rfl

@[simp] theorem busRefuse_acc (c : BusCause) (s : State) : (busRefuse c s).acc = s.acc := rfl

@[simp] theorem busRefuse_meter (c : BusCause) (s : State) : (busRefuse c s).meter = s.meter := rfl

@[simp] theorem busRefuse_seq (c : BusCause) (s : State) : (busRefuse c s).seq = s.seq := rfl

@[simp] theorem busRefuse_blk (c : BusCause) (s : State) : (busRefuse c s).blk = s.blk := rfl

@[simp] theorem busRefuse_refr (c : BusCause) (s : State) : (busRefuse c s).refr = s.refr := rfl

@[simp] theorem busRefuse_mem (c : BusCause) (s : State) : (busRefuse c s).mem = s.mem := rfl

@[simp] theorem busRefuse_rdata (c : BusCause) (s : State) : (busRefuse c s).rdata = s.rdata := rfl

@[simp] theorem busRefuse_sched (c : BusCause) (s : State) : (busRefuse c s).sched = s.sched := rfl

/-! ### seedRng -/

@[simp] theorem seedRng_reg (w : Word) (s : State) : (seedRng w s).reg = s.reg := rfl

@[simp] theorem seedRng_cfg (w : Word) (s : State) : (seedRng w s).cfg = s.cfg := rfl

@[simp] theorem seedRng_ev (w : Word) (s : State) : (seedRng w s).ev = s.ev := rfl

@[simp] theorem seedRng_sh (w : Word) (s : State) : (seedRng w s).sh = s.sh := rfl

@[simp] theorem seedRng_recon (w : Word) (s : State) : (seedRng w s).recon = s.recon := rfl

@[simp] theorem seedRng_rng (w : Word) (s : State) :
    (seedRng w s).rng = { s.rng with s := rngInit w } := rfl

@[simp] theorem seedRng_tim (w : Word) (s : State) : (seedRng w s).tim = s.tim := rfl

@[simp] theorem seedRng_clk (w : Word) (s : State) : (seedRng w s).clk = s.clk := rfl

@[simp] theorem seedRng_walk (w : Word) (s : State) : (seedRng w s).walk = s.walk := rfl

@[simp] theorem seedRng_arp (w : Word) (s : State) : (seedRng w s).arp = s.arp := rfl

@[simp] theorem seedRng_pad (w : Word) (s : State) : (seedRng w s).pad = s.pad := rfl

@[simp] theorem seedRng_perc (w : Word) (s : State) : (seedRng w s).perc = s.perc := rfl

@[simp] theorem seedRng_mix (w : Word) (s : State) : (seedRng w s).mix = s.mix := rfl

@[simp] theorem seedRng_dly (w : Word) (s : State) : (seedRng w s).dly = s.dly := rfl

@[simp] theorem seedRng_band (w : Word) (s : State) : (seedRng w s).band = s.band := rfl

@[simp] theorem seedRng_acc (w : Word) (s : State) : (seedRng w s).acc = s.acc := rfl

@[simp] theorem seedRng_meter (w : Word) (s : State) : (seedRng w s).meter = s.meter := rfl

@[simp] theorem seedRng_seq (w : Word) (s : State) : (seedRng w s).seq = s.seq := rfl

@[simp] theorem seedRng_blk (w : Word) (s : State) : (seedRng w s).blk = s.blk := rfl

@[simp] theorem seedRng_refr (w : Word) (s : State) : (seedRng w s).refr = s.refr := rfl

@[simp] theorem seedRng_mem (w : Word) (s : State) : (seedRng w s).mem = s.mem := rfl

@[simp] theorem seedRng_rdata (w : Word) (s : State) : (seedRng w s).rdata = s.rdata := rfl

@[simp] theorem seedRng_sched (w : Word) (s : State) : (seedRng w s).sched = s.sched := rfl

/-! ### afterFraction -/

@[simp] theorem afterFraction_reg (s : State) : (afterFraction s).reg = s.reg := rfl

@[simp] theorem afterFraction_cfg (s : State) : (afterFraction s).cfg = s.cfg := rfl

@[simp] theorem afterFraction_ev (s : State) : (afterFraction s).ev = s.ev := rfl

@[simp] theorem afterFraction_sh (s : State) : (afterFraction s).sh = s.sh := rfl

@[simp] theorem afterFraction_recon (s : State) : (afterFraction s).recon = s.recon := rfl

@[simp] theorem afterFraction_rng (s : State) :
    (afterFraction s).rng = { s.rng with s := (rngFrac s.rng.s).2 } := rfl

@[simp] theorem afterFraction_tim (s : State) : (afterFraction s).tim = s.tim := rfl

@[simp] theorem afterFraction_clk (s : State) : (afterFraction s).clk = s.clk := rfl

@[simp] theorem afterFraction_walk (s : State) : (afterFraction s).walk = s.walk := rfl

@[simp] theorem afterFraction_arp (s : State) : (afterFraction s).arp = s.arp := rfl

@[simp] theorem afterFraction_pad (s : State) : (afterFraction s).pad = s.pad := rfl

@[simp] theorem afterFraction_perc (s : State) : (afterFraction s).perc = s.perc := rfl

@[simp] theorem afterFraction_mix (s : State) : (afterFraction s).mix = s.mix := rfl

@[simp] theorem afterFraction_dly (s : State) : (afterFraction s).dly = s.dly := rfl

@[simp] theorem afterFraction_band (s : State) : (afterFraction s).band = s.band := rfl

@[simp] theorem afterFraction_acc (s : State) : (afterFraction s).acc = s.acc := rfl

@[simp] theorem afterFraction_meter (s : State) : (afterFraction s).meter = s.meter := rfl

@[simp] theorem afterFraction_seq (s : State) : (afterFraction s).seq = s.seq := rfl

@[simp] theorem afterFraction_blk (s : State) : (afterFraction s).blk = s.blk := rfl

@[simp] theorem afterFraction_refr (s : State) : (afterFraction s).refr = s.refr := rfl

@[simp] theorem afterFraction_mem (s : State) : (afterFraction s).mem = s.mem := rfl

@[simp] theorem afterFraction_rdata (s : State) : (afterFraction s).rdata = s.rdata := rfl

@[simp] theorem afterFraction_sched (s : State) : (afterFraction s).sched = s.sched := rfl

/-! ### afterInt -/

@[simp] theorem afterInt_reg (lo hi : Word) (s : State) : (afterInt lo hi s).reg = s.reg := rfl

@[simp] theorem afterInt_cfg (lo hi : Word) (s : State) : (afterInt lo hi s).cfg = s.cfg := rfl

@[simp] theorem afterInt_ev (lo hi : Word) (s : State) : (afterInt lo hi s).ev = s.ev := rfl

@[simp] theorem afterInt_sh (lo hi : Word) (s : State) : (afterInt lo hi s).sh = s.sh := rfl

@[simp] theorem afterInt_recon (lo hi : Word) (s : State) : (afterInt lo hi s).recon = s.recon := rfl

@[simp] theorem afterInt_rng (lo hi : Word) (s : State) :
    (afterInt lo hi s).rng = { s.rng with s := (intInRange s.rng.s lo hi).2 } := rfl

@[simp] theorem afterInt_tim (lo hi : Word) (s : State) : (afterInt lo hi s).tim = s.tim := rfl

@[simp] theorem afterInt_clk (lo hi : Word) (s : State) : (afterInt lo hi s).clk = s.clk := rfl

@[simp] theorem afterInt_walk (lo hi : Word) (s : State) : (afterInt lo hi s).walk = s.walk := rfl

@[simp] theorem afterInt_arp (lo hi : Word) (s : State) : (afterInt lo hi s).arp = s.arp := rfl

@[simp] theorem afterInt_pad (lo hi : Word) (s : State) : (afterInt lo hi s).pad = s.pad := rfl

@[simp] theorem afterInt_perc (lo hi : Word) (s : State) : (afterInt lo hi s).perc = s.perc := rfl

@[simp] theorem afterInt_mix (lo hi : Word) (s : State) : (afterInt lo hi s).mix = s.mix := rfl

@[simp] theorem afterInt_dly (lo hi : Word) (s : State) : (afterInt lo hi s).dly = s.dly := rfl

@[simp] theorem afterInt_band (lo hi : Word) (s : State) : (afterInt lo hi s).band = s.band := rfl

@[simp] theorem afterInt_acc (lo hi : Word) (s : State) : (afterInt lo hi s).acc = s.acc := rfl

@[simp] theorem afterInt_meter (lo hi : Word) (s : State) : (afterInt lo hi s).meter = s.meter := rfl

@[simp] theorem afterInt_seq (lo hi : Word) (s : State) : (afterInt lo hi s).seq = s.seq := rfl

@[simp] theorem afterInt_blk (lo hi : Word) (s : State) : (afterInt lo hi s).blk = s.blk := rfl

@[simp] theorem afterInt_refr (lo hi : Word) (s : State) : (afterInt lo hi s).refr = s.refr := rfl

@[simp] theorem afterInt_mem (lo hi : Word) (s : State) : (afterInt lo hi s).mem = s.mem := rfl

@[simp] theorem afterInt_rdata (lo hi : Word) (s : State) : (afterInt lo hi s).rdata = s.rdata := rfl

@[simp] theorem afterInt_sched (lo hi : Word) (s : State) : (afterInt lo hi s).sched = s.sched := rfl

/-! ### setVoice_arp -/

@[simp] theorem setVoice_arp_reg (x : Voice) (s : State) : (s.setVoice .arp x).reg = s.reg := rfl

@[simp] theorem setVoice_arp_cfg (x : Voice) (s : State) : (s.setVoice .arp x).cfg = s.cfg := rfl

@[simp] theorem setVoice_arp_ev (x : Voice) (s : State) : (s.setVoice .arp x).ev = s.ev := rfl

@[simp] theorem setVoice_arp_sh (x : Voice) (s : State) : (s.setVoice .arp x).sh = s.sh := rfl

@[simp] theorem setVoice_arp_recon (x : Voice) (s : State) : (s.setVoice .arp x).recon = s.recon := rfl

@[simp] theorem setVoice_arp_rng (x : Voice) (s : State) : (s.setVoice .arp x).rng = s.rng := rfl

@[simp] theorem setVoice_arp_tim (x : Voice) (s : State) : (s.setVoice .arp x).tim = s.tim := rfl

@[simp] theorem setVoice_arp_clk (x : Voice) (s : State) : (s.setVoice .arp x).clk = s.clk := rfl

@[simp] theorem setVoice_arp_walk (x : Voice) (s : State) : (s.setVoice .arp x).walk = s.walk := rfl

@[simp] theorem setVoice_arp_arp (x : Voice) (s : State) :
    (s.setVoice .arp x).arp = x := rfl

@[simp] theorem setVoice_arp_pad (x : Voice) (s : State) : (s.setVoice .arp x).pad = s.pad := rfl

@[simp] theorem setVoice_arp_perc (x : Voice) (s : State) : (s.setVoice .arp x).perc = s.perc := rfl

@[simp] theorem setVoice_arp_mix (x : Voice) (s : State) : (s.setVoice .arp x).mix = s.mix := rfl

@[simp] theorem setVoice_arp_dly (x : Voice) (s : State) : (s.setVoice .arp x).dly = s.dly := rfl

@[simp] theorem setVoice_arp_band (x : Voice) (s : State) : (s.setVoice .arp x).band = s.band := rfl

@[simp] theorem setVoice_arp_acc (x : Voice) (s : State) : (s.setVoice .arp x).acc = s.acc := rfl

@[simp] theorem setVoice_arp_meter (x : Voice) (s : State) : (s.setVoice .arp x).meter = s.meter := rfl

@[simp] theorem setVoice_arp_seq (x : Voice) (s : State) : (s.setVoice .arp x).seq = s.seq := rfl

@[simp] theorem setVoice_arp_blk (x : Voice) (s : State) : (s.setVoice .arp x).blk = s.blk := rfl

@[simp] theorem setVoice_arp_refr (x : Voice) (s : State) : (s.setVoice .arp x).refr = s.refr := rfl

@[simp] theorem setVoice_arp_mem (x : Voice) (s : State) : (s.setVoice .arp x).mem = s.mem := rfl

@[simp] theorem setVoice_arp_rdata (x : Voice) (s : State) : (s.setVoice .arp x).rdata = s.rdata := rfl

@[simp] theorem setVoice_arp_sched (x : Voice) (s : State) : (s.setVoice .arp x).sched = s.sched := rfl

/-! ### setVoice_pad -/

@[simp] theorem setVoice_pad_reg (x : Voice) (s : State) : (s.setVoice .pad x).reg = s.reg := rfl

@[simp] theorem setVoice_pad_cfg (x : Voice) (s : State) : (s.setVoice .pad x).cfg = s.cfg := rfl

@[simp] theorem setVoice_pad_ev (x : Voice) (s : State) : (s.setVoice .pad x).ev = s.ev := rfl

@[simp] theorem setVoice_pad_sh (x : Voice) (s : State) : (s.setVoice .pad x).sh = s.sh := rfl

@[simp] theorem setVoice_pad_recon (x : Voice) (s : State) : (s.setVoice .pad x).recon = s.recon := rfl

@[simp] theorem setVoice_pad_rng (x : Voice) (s : State) : (s.setVoice .pad x).rng = s.rng := rfl

@[simp] theorem setVoice_pad_tim (x : Voice) (s : State) : (s.setVoice .pad x).tim = s.tim := rfl

@[simp] theorem setVoice_pad_clk (x : Voice) (s : State) : (s.setVoice .pad x).clk = s.clk := rfl

@[simp] theorem setVoice_pad_walk (x : Voice) (s : State) : (s.setVoice .pad x).walk = s.walk := rfl

@[simp] theorem setVoice_pad_arp (x : Voice) (s : State) : (s.setVoice .pad x).arp = s.arp := rfl

@[simp] theorem setVoice_pad_pad (x : Voice) (s : State) :
    (s.setVoice .pad x).pad = x := rfl

@[simp] theorem setVoice_pad_perc (x : Voice) (s : State) : (s.setVoice .pad x).perc = s.perc := rfl

@[simp] theorem setVoice_pad_mix (x : Voice) (s : State) : (s.setVoice .pad x).mix = s.mix := rfl

@[simp] theorem setVoice_pad_dly (x : Voice) (s : State) : (s.setVoice .pad x).dly = s.dly := rfl

@[simp] theorem setVoice_pad_band (x : Voice) (s : State) : (s.setVoice .pad x).band = s.band := rfl

@[simp] theorem setVoice_pad_acc (x : Voice) (s : State) : (s.setVoice .pad x).acc = s.acc := rfl

@[simp] theorem setVoice_pad_meter (x : Voice) (s : State) : (s.setVoice .pad x).meter = s.meter := rfl

@[simp] theorem setVoice_pad_seq (x : Voice) (s : State) : (s.setVoice .pad x).seq = s.seq := rfl

@[simp] theorem setVoice_pad_blk (x : Voice) (s : State) : (s.setVoice .pad x).blk = s.blk := rfl

@[simp] theorem setVoice_pad_refr (x : Voice) (s : State) : (s.setVoice .pad x).refr = s.refr := rfl

@[simp] theorem setVoice_pad_mem (x : Voice) (s : State) : (s.setVoice .pad x).mem = s.mem := rfl

@[simp] theorem setVoice_pad_rdata (x : Voice) (s : State) : (s.setVoice .pad x).rdata = s.rdata := rfl

@[simp] theorem setVoice_pad_sched (x : Voice) (s : State) : (s.setVoice .pad x).sched = s.sched := rfl

/-! ### timingRecompute -/

@[simp] theorem timingRecompute_reg (b : F32) (s : State) : (timingRecompute b s).reg = s.reg := by simp only [timingRecompute]

@[simp] theorem timingRecompute_cfg (b : F32) (s : State) : (timingRecompute b s).cfg = s.cfg := by simp only [timingRecompute]

@[simp] theorem timingRecompute_ev (b : F32) (s : State) : (timingRecompute b s).ev = s.ev := by simp only [timingRecompute]

@[simp] theorem timingRecompute_sh (b : F32) (s : State) : (timingRecompute b s).sh = s.sh := by simp only [timingRecompute]

@[simp] theorem timingRecompute_recon (b : F32) (s : State) : (timingRecompute b s).recon = s.recon := by simp only [timingRecompute]

@[simp] theorem timingRecompute_rng (b : F32) (s : State) : (timingRecompute b s).rng = s.rng := by simp only [timingRecompute]

@[simp] theorem timingRecompute_tim (b : F32) (s : State) :
    (timingRecompute b s).tim = periodsOf s.cfg.fs b := by simp only [timingRecompute]

@[simp] theorem timingRecompute_clk (b : F32) (s : State) : (timingRecompute b s).clk = s.clk := by simp only [timingRecompute]

@[simp] theorem timingRecompute_walk (b : F32) (s : State) : (timingRecompute b s).walk = s.walk := by simp only [timingRecompute]

@[simp] theorem timingRecompute_arp (b : F32) (s : State) : (timingRecompute b s).arp = s.arp := by simp only [timingRecompute]

@[simp] theorem timingRecompute_pad (b : F32) (s : State) : (timingRecompute b s).pad = s.pad := by simp only [timingRecompute]

@[simp] theorem timingRecompute_perc (b : F32) (s : State) : (timingRecompute b s).perc = s.perc := by simp only [timingRecompute]

@[simp] theorem timingRecompute_mix (b : F32) (s : State) : (timingRecompute b s).mix = s.mix := by simp only [timingRecompute]

@[simp] theorem timingRecompute_dly (b : F32) (s : State) : (timingRecompute b s).dly = s.dly := by simp only [timingRecompute]

@[simp] theorem timingRecompute_band (b : F32) (s : State) : (timingRecompute b s).band = s.band := by simp only [timingRecompute]

@[simp] theorem timingRecompute_acc (b : F32) (s : State) : (timingRecompute b s).acc = s.acc := by simp only [timingRecompute]

@[simp] theorem timingRecompute_meter (b : F32) (s : State) : (timingRecompute b s).meter = s.meter := by simp only [timingRecompute]

@[simp] theorem timingRecompute_seq (b : F32) (s : State) : (timingRecompute b s).seq = s.seq := by simp only [timingRecompute]

@[simp] theorem timingRecompute_blk (b : F32) (s : State) : (timingRecompute b s).blk = s.blk := by simp only [timingRecompute]

@[simp] theorem timingRecompute_refr (b : F32) (s : State) : (timingRecompute b s).refr = s.refr := by simp only [timingRecompute]

@[simp] theorem timingRecompute_mem (b : F32) (s : State) : (timingRecompute b s).mem = s.mem := by simp only [timingRecompute]

@[simp] theorem timingRecompute_rdata (b : F32) (s : State) : (timingRecompute b s).rdata = s.rdata := by simp only [timingRecompute]

@[simp] theorem timingRecompute_sched (b : F32) (s : State) : (timingRecompute b s).sched = s.sched := by simp only [timingRecompute]

/-! ### clockTick -/

@[simp] theorem clockTick_reg (s : State) : (clockTick s).reg = s.reg := rfl

@[simp] theorem clockTick_cfg (s : State) : (clockTick s).cfg = s.cfg := rfl

@[simp] theorem clockTick_sh (s : State) : (clockTick s).sh = s.sh := rfl

@[simp] theorem clockTick_recon (s : State) : (clockTick s).recon = s.recon := rfl

@[simp] theorem clockTick_rng (s : State) : (clockTick s).rng = s.rng := rfl

@[simp] theorem clockTick_tim (s : State) : (clockTick s).tim = s.tim := rfl

@[simp] theorem clockTick_walk (s : State) : (clockTick s).walk = s.walk := rfl

@[simp] theorem clockTick_arp (s : State) : (clockTick s).arp = s.arp := rfl

@[simp] theorem clockTick_pad (s : State) : (clockTick s).pad = s.pad := rfl

@[simp] theorem clockTick_perc (s : State) : (clockTick s).perc = s.perc := rfl

@[simp] theorem clockTick_mix (s : State) : (clockTick s).mix = s.mix := rfl

@[simp] theorem clockTick_dly (s : State) : (clockTick s).dly = s.dly := rfl

@[simp] theorem clockTick_band (s : State) : (clockTick s).band = s.band := rfl

@[simp] theorem clockTick_acc (s : State) : (clockTick s).acc = s.acc := rfl

@[simp] theorem clockTick_meter (s : State) : (clockTick s).meter = s.meter := rfl

@[simp] theorem clockTick_seq (s : State) : (clockTick s).seq = s.seq := rfl

@[simp] theorem clockTick_blk (s : State) : (clockTick s).blk = s.blk := rfl

@[simp] theorem clockTick_refr (s : State) : (clockTick s).refr = s.refr := rfl

@[simp] theorem clockTick_mem (s : State) : (clockTick s).mem = s.mem := rfl

@[simp] theorem clockTick_rdata (s : State) : (clockTick s).rdata = s.rdata := rfl

@[simp] theorem clockTick_sched (s : State) : (clockTick s).sched = s.sched := rfl

/-! ### percTrigger -/

@[simp] theorem percTrigger_reg (s : State) : (percTrigger s).reg = s.reg := rfl

@[simp] theorem percTrigger_cfg (s : State) : (percTrigger s).cfg = s.cfg := rfl

@[simp] theorem percTrigger_ev (s : State) : (percTrigger s).ev = s.ev := rfl

@[simp] theorem percTrigger_sh (s : State) : (percTrigger s).sh = s.sh := rfl

@[simp] theorem percTrigger_recon (s : State) : (percTrigger s).recon = s.recon := rfl

@[simp] theorem percTrigger_rng (s : State) : (percTrigger s).rng = s.rng := rfl

@[simp] theorem percTrigger_tim (s : State) : (percTrigger s).tim = s.tim := rfl

@[simp] theorem percTrigger_clk (s : State) : (percTrigger s).clk = s.clk := rfl

@[simp] theorem percTrigger_walk (s : State) : (percTrigger s).walk = s.walk := rfl

@[simp] theorem percTrigger_arp (s : State) : (percTrigger s).arp = s.arp := rfl

@[simp] theorem percTrigger_pad (s : State) : (percTrigger s).pad = s.pad := rfl

@[simp] theorem percTrigger_perc (s : State) :
    (percTrigger s).perc = { s.perc with env := fofInt 1 } := rfl

@[simp] theorem percTrigger_mix (s : State) : (percTrigger s).mix = s.mix := rfl

@[simp] theorem percTrigger_dly (s : State) : (percTrigger s).dly = s.dly := rfl

@[simp] theorem percTrigger_band (s : State) : (percTrigger s).band = s.band := rfl

@[simp] theorem percTrigger_acc (s : State) : (percTrigger s).acc = s.acc := rfl

@[simp] theorem percTrigger_meter (s : State) : (percTrigger s).meter = s.meter := rfl

@[simp] theorem percTrigger_seq (s : State) : (percTrigger s).seq = s.seq := rfl

@[simp] theorem percTrigger_blk (s : State) : (percTrigger s).blk = s.blk := rfl

@[simp] theorem percTrigger_refr (s : State) : (percTrigger s).refr = s.refr := rfl

@[simp] theorem percTrigger_mem (s : State) : (percTrigger s).mem = s.mem := rfl

@[simp] theorem percTrigger_rdata (s : State) : (percTrigger s).rdata = s.rdata := rfl

@[simp] theorem percTrigger_sched (s : State) : (percTrigger s).sched = s.sched := rfl

/-! ### clearAcc -/

@[simp] theorem clearAcc_reg (s : State) : (clearAcc s).reg = s.reg := rfl

@[simp] theorem clearAcc_cfg (s : State) : (clearAcc s).cfg = s.cfg := rfl

@[simp] theorem clearAcc_ev (s : State) : (clearAcc s).ev = s.ev := rfl

@[simp] theorem clearAcc_sh (s : State) : (clearAcc s).sh = s.sh := rfl

@[simp] theorem clearAcc_recon (s : State) : (clearAcc s).recon = s.recon := rfl

@[simp] theorem clearAcc_rng (s : State) : (clearAcc s).rng = s.rng := rfl

@[simp] theorem clearAcc_tim (s : State) : (clearAcc s).tim = s.tim := rfl

@[simp] theorem clearAcc_clk (s : State) : (clearAcc s).clk = s.clk := rfl

@[simp] theorem clearAcc_walk (s : State) : (clearAcc s).walk = s.walk := rfl

@[simp] theorem clearAcc_arp (s : State) : (clearAcc s).arp = s.arp := rfl

@[simp] theorem clearAcc_pad (s : State) : (clearAcc s).pad = s.pad := rfl

@[simp] theorem clearAcc_perc (s : State) : (clearAcc s).perc = s.perc := rfl

@[simp] theorem clearAcc_mix (s : State) : (clearAcc s).mix = s.mix := rfl

@[simp] theorem clearAcc_dly (s : State) : (clearAcc s).dly = s.dly := rfl

@[simp] theorem clearAcc_band (s : State) : (clearAcc s).band = s.band := rfl

@[simp] theorem clearAcc_acc (s : State) :
    (clearAcc s).acc = { sq := 0#32, lo := 0#32, mid := 0#32, hi := 0#32 } := rfl

@[simp] theorem clearAcc_meter (s : State) : (clearAcc s).meter = s.meter := rfl

@[simp] theorem clearAcc_seq (s : State) : (clearAcc s).seq = s.seq := rfl

@[simp] theorem clearAcc_blk (s : State) : (clearAcc s).blk = s.blk := rfl

@[simp] theorem clearAcc_refr (s : State) : (clearAcc s).refr = s.refr := rfl

@[simp] theorem clearAcc_mem (s : State) : (clearAcc s).mem = s.mem := rfl

@[simp] theorem clearAcc_rdata (s : State) : (clearAcc s).rdata = s.rdata := rfl

@[simp] theorem clearAcc_sched (s : State) : (clearAcc s).sched = s.sched := rfl

/-! ### publishMeter -/

@[simp] theorem publishMeter_reg (k : Nat) (s : State) : (publishMeter k s).reg = s.reg := rfl

@[simp] theorem publishMeter_cfg (k : Nat) (s : State) : (publishMeter k s).cfg = s.cfg := rfl

@[simp] theorem publishMeter_ev (k : Nat) (s : State) : (publishMeter k s).ev = s.ev := rfl

@[simp] theorem publishMeter_sh (k : Nat) (s : State) : (publishMeter k s).sh = s.sh := rfl

@[simp] theorem publishMeter_recon (k : Nat) (s : State) : (publishMeter k s).recon = s.recon := rfl

@[simp] theorem publishMeter_rng (k : Nat) (s : State) : (publishMeter k s).rng = s.rng := rfl

@[simp] theorem publishMeter_tim (k : Nat) (s : State) : (publishMeter k s).tim = s.tim := rfl

@[simp] theorem publishMeter_clk (k : Nat) (s : State) : (publishMeter k s).clk = s.clk := rfl

@[simp] theorem publishMeter_walk (k : Nat) (s : State) : (publishMeter k s).walk = s.walk := rfl

@[simp] theorem publishMeter_arp (k : Nat) (s : State) : (publishMeter k s).arp = s.arp := rfl

@[simp] theorem publishMeter_pad (k : Nat) (s : State) : (publishMeter k s).pad = s.pad := rfl

@[simp] theorem publishMeter_perc (k : Nat) (s : State) : (publishMeter k s).perc = s.perc := rfl

@[simp] theorem publishMeter_mix (k : Nat) (s : State) : (publishMeter k s).mix = s.mix := rfl

@[simp] theorem publishMeter_dly (k : Nat) (s : State) : (publishMeter k s).dly = s.dly := rfl

@[simp] theorem publishMeter_band (k : Nat) (s : State) : (publishMeter k s).band = s.band := rfl

@[simp] theorem publishMeter_acc (k : Nat) (s : State) : (publishMeter k s).acc = s.acc := rfl

@[simp] theorem publishMeter_meter (k : Nat) (s : State) :
    (publishMeter k s).meter = s.meter.set k (smooth (s.meter.get k) (blockValue k s)) := rfl

@[simp] theorem publishMeter_seq (k : Nat) (s : State) : (publishMeter k s).seq = s.seq := rfl

@[simp] theorem publishMeter_blk (k : Nat) (s : State) : (publishMeter k s).blk = s.blk := rfl

@[simp] theorem publishMeter_refr (k : Nat) (s : State) : (publishMeter k s).refr = s.refr := rfl

@[simp] theorem publishMeter_mem (k : Nat) (s : State) : (publishMeter k s).mem = s.mem := rfl

@[simp] theorem publishMeter_rdata (k : Nat) (s : State) : (publishMeter k s).rdata = s.rdata := rfl

@[simp] theorem publishMeter_sched (k : Nat) (s : State) : (publishMeter k s).sched = s.sched := rfl

/-! ### publishDone -/

@[simp] theorem publishDone_reg (s : State) :
    (publishDone s).reg = { s.reg with render := s.blk.N, ctrl := { s.reg.ctrl with busy := false } } := rfl

@[simp] theorem publishDone_cfg (s : State) : (publishDone s).cfg = s.cfg := rfl

@[simp] theorem publishDone_ev (s : State) : (publishDone s).ev = s.ev := rfl

@[simp] theorem publishDone_sh (s : State) : (publishDone s).sh = s.sh := rfl

@[simp] theorem publishDone_recon (s : State) : (publishDone s).recon = s.recon := rfl

@[simp] theorem publishDone_rng (s : State) : (publishDone s).rng = s.rng := rfl

@[simp] theorem publishDone_tim (s : State) : (publishDone s).tim = s.tim := rfl

@[simp] theorem publishDone_clk (s : State) : (publishDone s).clk = s.clk := rfl

@[simp] theorem publishDone_walk (s : State) : (publishDone s).walk = s.walk := rfl

@[simp] theorem publishDone_arp (s : State) : (publishDone s).arp = s.arp := rfl

@[simp] theorem publishDone_pad (s : State) : (publishDone s).pad = s.pad := rfl

@[simp] theorem publishDone_perc (s : State) : (publishDone s).perc = s.perc := rfl

@[simp] theorem publishDone_mix (s : State) : (publishDone s).mix = s.mix := rfl

@[simp] theorem publishDone_dly (s : State) : (publishDone s).dly = s.dly := rfl

@[simp] theorem publishDone_band (s : State) : (publishDone s).band = s.band := rfl

@[simp] theorem publishDone_acc (s : State) : (publishDone s).acc = s.acc := rfl

@[simp] theorem publishDone_meter (s : State) : (publishDone s).meter = s.meter := rfl

@[simp] theorem publishDone_seq (s : State) : (publishDone s).seq = s.seq := rfl

@[simp] theorem publishDone_blk (s : State) : (publishDone s).blk = s.blk := rfl

@[simp] theorem publishDone_refr (s : State) : (publishDone s).refr = s.refr := rfl

@[simp] theorem publishDone_mem (s : State) : (publishDone s).mem = s.mem := rfl

@[simp] theorem publishDone_rdata (s : State) : (publishDone s).rdata = s.rdata := rfl

@[simp] theorem publishDone_sched (s : State) : (publishDone s).sched = s.sched := rfl

/-! ### startBlock -/

@[simp] theorem startBlock_reg (n : Word) (s : State) :
    (startBlock n s).reg = { s.reg with ctrl := { s.reg.ctrl with busy := true } } := rfl

@[simp] theorem startBlock_cfg (n : Word) (s : State) : (startBlock n s).cfg = s.cfg := rfl

@[simp] theorem startBlock_ev (n : Word) (s : State) : (startBlock n s).ev = s.ev := rfl

@[simp] theorem startBlock_sh (n : Word) (s : State) : (startBlock n s).sh = s.sh := rfl

@[simp] theorem startBlock_recon (n : Word) (s : State) : (startBlock n s).recon = s.recon := rfl

@[simp] theorem startBlock_rng (n : Word) (s : State) : (startBlock n s).rng = s.rng := rfl

@[simp] theorem startBlock_tim (n : Word) (s : State) : (startBlock n s).tim = s.tim := rfl

@[simp] theorem startBlock_clk (n : Word) (s : State) : (startBlock n s).clk = s.clk := rfl

@[simp] theorem startBlock_walk (n : Word) (s : State) : (startBlock n s).walk = s.walk := rfl

@[simp] theorem startBlock_arp (n : Word) (s : State) : (startBlock n s).arp = s.arp := rfl

@[simp] theorem startBlock_pad (n : Word) (s : State) : (startBlock n s).pad = s.pad := rfl

@[simp] theorem startBlock_perc (n : Word) (s : State) : (startBlock n s).perc = s.perc := rfl

@[simp] theorem startBlock_mix (n : Word) (s : State) : (startBlock n s).mix = s.mix := rfl

@[simp] theorem startBlock_dly (n : Word) (s : State) : (startBlock n s).dly = s.dly := rfl

@[simp] theorem startBlock_band (n : Word) (s : State) : (startBlock n s).band = s.band := rfl

@[simp] theorem startBlock_acc (n : Word) (s : State) : (startBlock n s).acc = s.acc := rfl

@[simp] theorem startBlock_meter (n : Word) (s : State) : (startBlock n s).meter = s.meter := rfl

@[simp] theorem startBlock_seq (n : Word) (s : State) :
    (startBlock n s).seq = { phase := .refresh, i := 0, k := 0, sub := 0 } := rfl

@[simp] theorem startBlock_blk (n : Word) (s : State) :
    (startBlock n s).blk = { N := n, base := bufBaseWord s.reg.bufBase } := rfl

@[simp] theorem startBlock_refr (n : Word) (s : State) : (startBlock n s).refr = s.refr := rfl

@[simp] theorem startBlock_mem (n : Word) (s : State) : (startBlock n s).mem = s.mem := rfl

@[simp] theorem startBlock_rdata (n : Word) (s : State) : (startBlock n s).rdata = s.rdata := rfl

@[simp] theorem startBlock_sched (n : Word) (s : State) : (startBlock n s).sched = s.sched := rfl

/-! ### toReconcile -/

@[simp] theorem toReconcile_reg (s : State) : (toReconcile s).reg = s.reg := rfl

@[simp] theorem toReconcile_cfg (s : State) : (toReconcile s).cfg = s.cfg := rfl

@[simp] theorem toReconcile_ev (s : State) : (toReconcile s).ev = s.ev := rfl

@[simp] theorem toReconcile_sh (s : State) : (toReconcile s).sh = s.sh := rfl

@[simp] theorem toReconcile_recon (s : State) : (toReconcile s).recon = s.recon := rfl

@[simp] theorem toReconcile_rng (s : State) : (toReconcile s).rng = s.rng := rfl

@[simp] theorem toReconcile_tim (s : State) : (toReconcile s).tim = s.tim := rfl

@[simp] theorem toReconcile_clk (s : State) : (toReconcile s).clk = s.clk := rfl

@[simp] theorem toReconcile_walk (s : State) : (toReconcile s).walk = s.walk := rfl

@[simp] theorem toReconcile_arp (s : State) : (toReconcile s).arp = s.arp := rfl

@[simp] theorem toReconcile_pad (s : State) : (toReconcile s).pad = s.pad := rfl

@[simp] theorem toReconcile_perc (s : State) : (toReconcile s).perc = s.perc := rfl

@[simp] theorem toReconcile_mix (s : State) : (toReconcile s).mix = s.mix := rfl

@[simp] theorem toReconcile_dly (s : State) : (toReconcile s).dly = s.dly := rfl

@[simp] theorem toReconcile_band (s : State) : (toReconcile s).band = s.band := rfl

@[simp] theorem toReconcile_acc (s : State) : (toReconcile s).acc = s.acc := rfl

@[simp] theorem toReconcile_meter (s : State) : (toReconcile s).meter = s.meter := rfl

@[simp] theorem toReconcile_seq (s : State) :
    (toReconcile s).seq = { s.seq with phase := .reconcile, sub := 0 } := rfl

@[simp] theorem toReconcile_blk (s : State) : (toReconcile s).blk = s.blk := rfl

@[simp] theorem toReconcile_refr (s : State) : (toReconcile s).refr = s.refr := rfl

@[simp] theorem toReconcile_mem (s : State) : (toReconcile s).mem = s.mem := rfl

@[simp] theorem toReconcile_rdata (s : State) : (toReconcile s).rdata = s.rdata := rfl

@[simp] theorem toReconcile_sched (s : State) : (toReconcile s).sched = s.sched := rfl

/-! ### scaleRebuild -/

@[simp] theorem scaleRebuild_reg (sel : BitVec 2) (s : State) : (scaleRebuild sel s).reg = s.reg := by
  unfold scaleRebuild; dsimp only; split <;> rfl

@[simp] theorem scaleRebuild_cfg (sel : BitVec 2) (s : State) : (scaleRebuild sel s).cfg = s.cfg := by
  unfold scaleRebuild; dsimp only; split <;> rfl

@[simp] theorem scaleRebuild_ev (sel : BitVec 2) (s : State) : (scaleRebuild sel s).ev = s.ev := by
  unfold scaleRebuild; dsimp only; split <;> rfl

@[simp] theorem scaleRebuild_sh (sel : BitVec 2) (s : State) : (scaleRebuild sel s).sh = s.sh := by
  unfold scaleRebuild; dsimp only; split <;> rfl

@[simp] theorem scaleRebuild_recon (sel : BitVec 2) (s : State) : (scaleRebuild sel s).recon = s.recon := by
  unfold scaleRebuild; dsimp only; split <;> rfl

@[simp] theorem scaleRebuild_tim (sel : BitVec 2) (s : State) : (scaleRebuild sel s).tim = s.tim := by
  unfold scaleRebuild; dsimp only; split <;> rfl

@[simp] theorem scaleRebuild_clk (sel : BitVec 2) (s : State) : (scaleRebuild sel s).clk = s.clk := by
  unfold scaleRebuild; dsimp only; split <;> rfl

@[simp] theorem scaleRebuild_arp (sel : BitVec 2) (s : State) : (scaleRebuild sel s).arp = s.arp := by
  unfold scaleRebuild; dsimp only; split <;> rfl

@[simp] theorem scaleRebuild_pad (sel : BitVec 2) (s : State) : (scaleRebuild sel s).pad = s.pad := by
  unfold scaleRebuild; dsimp only; split <;> rfl

@[simp] theorem scaleRebuild_perc (sel : BitVec 2) (s : State) : (scaleRebuild sel s).perc = s.perc := by
  unfold scaleRebuild; dsimp only; split <;> rfl

@[simp] theorem scaleRebuild_mix (sel : BitVec 2) (s : State) : (scaleRebuild sel s).mix = s.mix := by
  unfold scaleRebuild; dsimp only; split <;> rfl

@[simp] theorem scaleRebuild_dly (sel : BitVec 2) (s : State) : (scaleRebuild sel s).dly = s.dly := by
  unfold scaleRebuild; dsimp only; split <;> rfl

@[simp] theorem scaleRebuild_band (sel : BitVec 2) (s : State) : (scaleRebuild sel s).band = s.band := by
  unfold scaleRebuild; dsimp only; split <;> rfl

@[simp] theorem scaleRebuild_acc (sel : BitVec 2) (s : State) : (scaleRebuild sel s).acc = s.acc := by
  unfold scaleRebuild; dsimp only; split <;> rfl

@[simp] theorem scaleRebuild_meter (sel : BitVec 2) (s : State) : (scaleRebuild sel s).meter = s.meter := by
  unfold scaleRebuild; dsimp only; split <;> rfl

@[simp] theorem scaleRebuild_seq (sel : BitVec 2) (s : State) : (scaleRebuild sel s).seq = s.seq := by
  unfold scaleRebuild; dsimp only; split <;> rfl

@[simp] theorem scaleRebuild_blk (sel : BitVec 2) (s : State) : (scaleRebuild sel s).blk = s.blk := by
  unfold scaleRebuild; dsimp only; split <;> rfl

@[simp] theorem scaleRebuild_refr (sel : BitVec 2) (s : State) : (scaleRebuild sel s).refr = s.refr := by
  unfold scaleRebuild; dsimp only; split <;> rfl

@[simp] theorem scaleRebuild_mem (sel : BitVec 2) (s : State) : (scaleRebuild sel s).mem = s.mem := by
  unfold scaleRebuild; dsimp only; split <;> rfl

@[simp] theorem scaleRebuild_rdata (sel : BitVec 2) (s : State) : (scaleRebuild sel s).rdata = s.rdata := by
  unfold scaleRebuild; dsimp only; split <;> rfl

@[simp] theorem scaleRebuild_sched (sel : BitVec 2) (s : State) : (scaleRebuild sel s).sched = s.sched := by
  unfold scaleRebuild; dsimp only; split <;> rfl

/-! ### walkerAdvance -/

@[simp] theorem walkerAdvance_reg (s : State) : (walkerAdvance s).reg = s.reg := by
  unfold walkerAdvance; split <;> rfl

@[simp] theorem walkerAdvance_cfg (s : State) : (walkerAdvance s).cfg = s.cfg := by
  unfold walkerAdvance; split <;> rfl

@[simp] theorem walkerAdvance_ev (s : State) : (walkerAdvance s).ev = s.ev := by
  unfold walkerAdvance; split <;> rfl

@[simp] theorem walkerAdvance_sh (s : State) : (walkerAdvance s).sh = s.sh := by
  unfold walkerAdvance; split <;> rfl

@[simp] theorem walkerAdvance_recon (s : State) : (walkerAdvance s).recon = s.recon := by
  unfold walkerAdvance; split <;> rfl

@[simp] theorem walkerAdvance_tim (s : State) : (walkerAdvance s).tim = s.tim := by
  unfold walkerAdvance; split <;> rfl

@[simp] theorem walkerAdvance_clk (s : State) : (walkerAdvance s).clk = s.clk := by
  unfold walkerAdvance; split <;> rfl

@[simp] theorem walkerAdvance_arp (s : State) : (walkerAdvance s).arp = s.arp := by
  unfold walkerAdvance; split <;> rfl

@[simp] theorem walkerAdvance_pad (s : State) : (walkerAdvance s).pad = s.pad := by
  unfold walkerAdvance; split <;> rfl

@[simp] theorem walkerAdvance_perc (s : State) : (walkerAdvance s).perc = s.perc := by
  unfold walkerAdvance; split <;> rfl

@[simp] theorem walkerAdvance_mix (s : State) : (walkerAdvance s).mix = s.mix := by
  unfold walkerAdvance; split <;> rfl

@[simp] theorem walkerAdvance_dly (s : State) : (walkerAdvance s).dly = s.dly := by
  unfold walkerAdvance; split <;> rfl

@[simp] theorem walkerAdvance_band (s : State) : (walkerAdvance s).band = s.band := by
  unfold walkerAdvance; split <;> rfl

@[simp] theorem walkerAdvance_acc (s : State) : (walkerAdvance s).acc = s.acc := by
  unfold walkerAdvance; split <;> rfl

@[simp] theorem walkerAdvance_meter (s : State) : (walkerAdvance s).meter = s.meter := by
  unfold walkerAdvance; split <;> rfl

@[simp] theorem walkerAdvance_seq (s : State) : (walkerAdvance s).seq = s.seq := by
  unfold walkerAdvance; split <;> rfl

@[simp] theorem walkerAdvance_blk (s : State) : (walkerAdvance s).blk = s.blk := by
  unfold walkerAdvance; split <;> rfl

@[simp] theorem walkerAdvance_refr (s : State) : (walkerAdvance s).refr = s.refr := by
  unfold walkerAdvance; split <;> rfl

@[simp] theorem walkerAdvance_mem (s : State) : (walkerAdvance s).mem = s.mem := by
  unfold walkerAdvance; split <;> rfl

@[simp] theorem walkerAdvance_rdata (s : State) : (walkerAdvance s).rdata = s.rdata := by
  unfold walkerAdvance; split <;> rfl

@[simp] theorem walkerAdvance_sched (s : State) : (walkerAdvance s).sched = s.sched := by
  unfold walkerAdvance; split <;> rfl

end Sys2Proof.Machine
end

