-- ==== Sys2Proof/Laws/Ops.lean ====
section
/-! SUPPORT. One lemma per shared operation that says once everything it can do when it answers a next
state: later proofs cite these and do not unfold the operations. -/

set_option Elab.async false

namespace Sys2Proof.Machine

@[simp] theorem andThen_next (s : State) (f : State → Result) : andThen (.next s) f = f s := rfl

@[simp] theorem andThen_fault (e : Fault) (f : State → Result) :
    andThen (.fault e) f = .fault e := rfl

@[simp] theorem andThen_refused (e : Refusal) (f : State → Result) :
    andThen (.refused e) f = .refused e := rfl

/-- A sequence answers a next state only through a next state of its first part. -/
theorem andThen_eq_next (r : Result) (f : State → Result) (t : State) (h : andThen r f = .next t) :
    ∃ u, r = .next u ∧ f u = .next t := by
  cases r with
  | next u => exact ⟨u, rfl, h⟩
  | fault e => cases h
  | refused e => cases h

/-- A step either runs the fetched instruction and then moves the sequencer, or is the outcome that the
fetch found. -/
theorem step_eq_next (s t : State) (h : step s = .next t) :
    (∃ i u a v, fetch s = .run i u a ∧ exec i u = .next v ∧ t = finish a v) ∨
      fetch s = .done (.next t) := by
  unfold step at h
  split at h
  · rename_i i u a hf
    obtain ⟨v, hv, hfin⟩ := andThen_eq_next _ _ _ h
    cases hfin
    exact .inl ⟨i, u, a, v, hf, hv, rfl⟩
  · rename_i r hf
    exact .inr (hf.trans (congrArg Fetched.done h))

/-- NOTE_FREQ answers only with the voice's frequency set, to a finite value. -/
theorem noteFreq_eq_next (v : VoiceId) (s t : State) (h : noteFreq v s = .next t) :
    isFinite (noteFrequency (noteNumber s v)) = true ∧
      t = s.setVoice v { s.voice v with freq := noteFrequency (noteNumber s v) } := by
  unfold noteFreq at h
  dsimp only at h
  split at h
  · rename_i hf
    cases h
    exact ⟨hf, rfl⟩
  · cases h

/-- No parameter value is a NaN where no ParamNaN is raised. -/
theorem firstNaN_eq_none (t d bb m : F32) (h : firstNaN t d bb m = none) :
    isNaN t = false ∧ isNaN d = false ∧ isNaN bb = false ∧ isNaN m = false := by
  unfold firstNaN at h
  split at h
  · cases h
  · split at h
    · cases h
    · split at h
      · cases h
      · split at h
        · cases h
        · simp_all

/-- The shadow update answers only where no value read is a NaN; it sets the shadow, and re-initialises
the generator only if the seed changed. -/
theorem refreshApply_eq_next (s t : State) (h : refreshApply s = .next t) :
    firstNaN s.refr.t s.refr.d s.refr.bb s.refr.m = none ∧
      t = { (if s.refr.sd ≠ s.sh.seed then seedRng s.refr.sd s else s) with sh := shadowOf s.refr } := by
  unfold refreshApply at h
  split at h
  · cases h
  · rename_i hn
    cases h
    exact ⟨hn, rfl⟩

/-- The construction answers only where no parameter register is a NaN. -/
theorem construct_eq_next (s t : State) (h : construct s = .next t) :
    firstNaN s.reg.tempo s.reg.density s.reg.brightness s.reg.motion = none ∧
      t = constructTail (zeroDatapath s) := by
  unfold construct at h
  split at h
  · cases h
  · rename_i hn
    cases h
    exact ⟨hn, rfl⟩

/-- FRAME_WRITE answers only where the frame's words lie below 2^32, and changes memory alone. -/
theorem execFrameWrite_eq_next (s t : State) (h : execFrameWrite s = .next t) :
    frameAddr s + 4 * frameWords s ≤ memSize ∧ t = { s with mem := frameMem s } := by
  unfold execFrameWrite at h
  split at h
  · cases h
  · rename_i hn
    cases h
    exact ⟨by omega, rfl⟩

/-- WR MOTION answers only on a value that is no NaN. -/
theorem execWrMotion_eq_next (d : Word) (s t : State) (h : execWrMotion d s = .next t) :
    isNaN d = false ∧ t = { s with reg := { s.reg with motion := clampUnit d } } := by
  unfold execWrMotion at h
  split at h
  · cases h
  · rename_i hn
    cases h
    exact ⟨by simpa using hn, rfl⟩

/-- WR RENDER is refused while BUSY, clears the read-back for 0 frames, or starts a block. -/
theorem execWrRender_cases (d : Word) (s : State) :
    (s.reg.ctrl.busy = true ∧ execWrRender d s = .next (busRefuse .renderWhileBusy s)) ∨
      (s.reg.ctrl.busy = false ∧ d = 0#32 ∧
        execWrRender d s = .next { s with reg := { s.reg with render := 0#32 } }) ∨
      (s.reg.ctrl.busy = false ∧ d ≠ 0#32 ∧ execWrRender d s = .next (startBlock d s)) := by
  unfold execWrRender
  by_cases hb : s.reg.ctrl.busy = true
  · exact .inl ⟨hb, by rw [if_pos hb]⟩
  · have hb' : s.reg.ctrl.busy = false := by simpa using hb
    by_cases hd : d = 0#32
    · exact .inr (.inl ⟨hb', hd, by rw [if_neg hb, if_pos hd]⟩)
    · exact .inr (.inr ⟨hb', hd, by rw [if_neg hb, if_neg hd]⟩)

/-- WR RESET is refused while BUSY, and else constructs. -/
theorem execWrReset_cases (d : Word) (s : State) :
    (s.reg.ctrl.busy = true ∧ execWrReset d s = .next (busRefuse .resetWhileBusy s)) ∨
      (s.reg.ctrl.busy = false ∧ execWrReset d s = construct s) := by
  unfold execWrReset
  by_cases hb : s.reg.ctrl.busy = true
  · exact .inl ⟨hb, by rw [if_pos hb]⟩
  · exact .inr ⟨by simpa using hb, by rw [if_neg hb]⟩

/-- Bit 1 of the CTRL word is BUSY (R188). -/
theorem ctrlWord_busy (c : Ctrl) : (ctrlWord c).getLsbD 1 = c.busy := by
  obtain ⟨hostv, busy, buserr, errcause⟩ := c
  revert errcause
  cases hostv <;> cases busy <;> cases buserr <;> decide

/-- Every ROM row is non-empty (R111). -/
theorem scaleRow_length_pos (sel : BitVec 2) : 0 < (scaleRow sel).length := by
  unfold scaleRow
  split <;> simp

/-- A ROM row has at most seven offsets (R111). -/
theorem scaleRow_length_le (sel : BitVec 2) : (scaleRow sel).length ≤ 7 := by
  unfold scaleRow
  split <;> simp

/-- SCALE_REBUILD always draws: the empty row of R112 does not occur. -/
theorem scaleRebuild_eq (sel : BitVec 2) (s : State) :
    scaleRebuild sel s =
      { afterInt 0#32 (BitVec.ofNat 32 ((scaleRow sel).length - 1)) s with
        walk := {
          tbl := scaleRow sel
          len := (scaleRow sel).length
          idx := (drawnInt 0#32 (BitVec.ofNat 32 ((scaleRow sel).length - 1)) s).toInt.toNat } } := by
  unfold scaleRebuild
  dsimp only
  rw [if_pos (scaleRow_length_pos sel)]

/-- A walker step stays inside a non-empty table (R58, R113). -/
theorem walkerStep_lt (w : Walk) (d : Int) (h : 0 < w.len) : walkerStep w d < w.len := by
  unfold walkerStep
  omega

/-- PERC_STEP either does nothing, below PERC_EPS, or draws once and advances the filters. -/
theorem percStep_cases (s : State) :
    (flt s.perc.env percEps = true ∧ percStep s = s) ∨
      (flt s.perc.env percEps = false ∧ (percStep s).rng = (afterFraction s).rng) := by
  unfold percStep
  by_cases h : flt s.perc.env percEps = true
  · exact .inl ⟨h, by rw [if_pos h]⟩
  · exact .inr ⟨by simpa using h, by rw [if_neg h]⟩

end Sys2Proof.Machine
end

