-- ==== Sys2Proof/Laws/Sched.lean ====
section
/-! SUPPORT. The serial order still to come is the business of the fetch alone: no operation, no
instruction and no engine step changes it. -/

set_option Elab.async false

namespace Sys2Proof.Machine

theorem noteFreq_sched (v : VoiceId) (s t : State) (h : noteFreq v s = .next t) : t.sched = s.sched := by
  obtain ⟨-, rfl⟩ := noteFreq_eq_next v s t h
  cases v <;> rfl

theorem construct_sched (s t : State) (h : construct s = .next t) : t.sched = s.sched := by
  obtain ⟨-, rfl⟩ := construct_eq_next s t h
  simp only [constructTail, scaleRebuild_sched, timingRecompute_sched, seedRng_sched]
  rfl

theorem refreshApply_sched (s t : State) (h : refreshApply s = .next t) : t.sched = s.sched := by
  obtain ⟨-, rfl⟩ := refreshApply_eq_next s t h
  split <;> rfl

theorem reconcileScale_sched (s : State) : (reconcileScale s).sched = s.sched := by
  unfold reconcileScale
  split
  · exact scaleRebuild_sched _ _
  · rfl

theorem reconcileTiming_sched (s : State) : (reconcileTiming s).sched = s.sched := by
  unfold reconcileTiming
  split <;> rfl

theorem percGate_sched (s : State) : (percGate s).sched = s.sched := by
  unfold percGate
  dsimp only
  split <;> rfl

theorem percStep_sched (s : State) : (percStep s).sched = s.sched := by
  unfold percStep
  split <;> rfl

theorem voiceStep_sched (v : VoiceId) (s : State) : (voiceStep v s).sched = s.sched := by
  cases v <;> rfl

theorem voiceTrigger_sched (v : VoiceId) (s : State) : (voiceTrigger v s).sched = s.sched := by
  cases v <;> rfl

theorem refreshRead_sched (n : Nat) (s : State) : (refreshRead n s).sched = s.sched := by
  unfold refreshRead
  split <;> rfl

theorem refreshReads_sched (s : State) : (refreshReads s).sched = s.sched := by
  simp only [refreshReads, refreshRead_sched]

theorem execParamRefresh_sched (s t : State) (h : execParamRefresh s = .next t) : t.sched = s.sched := by
  unfold execParamRefresh at h
  split at h
  · rw [refreshApply_sched _ _ h, refreshReads_sched, refreshRead_sched]
  · injection h with h
    rw [← h, refreshRead_sched]

theorem execReconcile_sched (s t : State) (h : execReconcile s = .next t) : t.sched = s.sched := by
  unfold execReconcile at h
  injection h with h
  rw [← h, reconcileScale_sched, reconcileTiming_sched]

theorem execMeterPublish_sched (s t : State) (h : execMeterPublish s = .next t) : t.sched = s.sched := by
  unfold execMeterPublish at h
  injection h with h
  rw [← h, publishDone_sched]
  simp only [publishMeters, publishMeter_sched]

/-- No instruction touches the serial order still to come. -/
theorem exec_sched (i : Instr) (s t : State) (h : exec i s = .next t) : t.sched = s.sched := by
  cases i with
  | wrMotion d =>
    obtain ⟨-, rfl⟩ := execWrMotion_eq_next d s t h
    rfl
  | wrRender d =>
    rcases execWrRender_cases d s with ⟨-, hx⟩ | ⟨-, -, hx⟩ | ⟨-, -, hx⟩ <;>
      (cases hx.symm.trans h; rfl)
  | wrReset d =>
    rcases execWrReset_cases d s with ⟨-, hx⟩ | ⟨-, hx⟩
    · cases hx.symm.trans h; rfl
    · exact construct_sched s t (hx.symm.trans h)
  | construct => exact construct_sched s t h
  | paramRefresh => exact execParamRefresh_sched s t h
  | meterPublish => exact execMeterPublish_sched s t h
  | reconcile => exact execReconcile_sched s t h
  | scaleRebuild => cases h; exact scaleRebuild_sched _ _
  | walkerAdvance => cases h; exact walkerAdvance_sched _
  | percGate => cases h; exact percGate_sched s
  | percStep => cases h; exact percStep_sched s
  | arpTrigger =>
    have h' : execArpTrigger s = .next t := h
    unfold execArpTrigger at h'
    obtain ⟨u, hu, hf⟩ := andThen_eq_next _ _ _ h'
    cases hf
    rw [voiceTrigger_sched, noteFreq_sched _ _ _ hu, walkerAdvance_sched]
  | padTrigger =>
    have h' : execPadTrigger s = .next t := h
    unfold execPadTrigger at h'
    obtain ⟨u, hu, hf⟩ := andThen_eq_next _ _ _ h'
    cases hf
    rw [voiceTrigger_sched, noteFreq_sched _ _ _ hu]
  | noteFreqArp => exact noteFreq_sched _ _ _ h
  | noteFreqPad => exact noteFreq_sched _ _ _ h
  | voiceStepArp => cases h; exact voiceStep_sched .arp s
  | voiceStepPad => cases h; exact voiceStep_sched .pad s
  | frameWrite =>
    obtain ⟨-, rfl⟩ := execFrameWrite_eq_next s t h
    rfl
  | _ => cases h; rfl

theorem microPrelude_sched (s : State) : (microPrelude s).sched = s.sched := by
  unfold microPrelude
  split <;> rfl

theorem finish_sched (a : After) (s : State) : (finish a s).sched = s.sched := by
  cases a <;> rfl

theorem refreshStep_sched (s t : State) (h : refreshStep s = .next t) : t.sched = s.sched := by
  unfold refreshStep at h
  dsimp only at h
  split at h
  · split at h <;> (cases h; exact refreshRead_sched _ s)
  · split at h
    · cases h; exact refreshRead_sched _ s
    · obtain ⟨u, hu, hf⟩ := andThen_eq_next _ _ _ h
      cases hf
      exact (refreshApply_sched _ _ hu).trans (refreshRead_sched _ s)

theorem publishStep_sched (s : State) : (publishStep s).sched = s.sched := by
  unfold publishStep
  split <;> rfl

/-- The step of a machine to which no command comes waits for none either. -/
theorem step_sched_nil (s t : State) (hs : s.sched = []) (h : step s = .next t) : t.sched = [] := by
  have hf : fetch s = fetchEngine s := by unfold fetch; rw [hs]
  have hu : ∀ op u a, fetchUop op u a = .done (.next t) → False := by
    intro op u a hx
    unfold fetchUop at hx
    split at hx <;> cases hx
  have hr : ∀ op u a i v b, fetchUop op u a = .run i v b → v = u := by
    intro op u a i v b hx
    unfold fetchUop at hx
    split at hx <;> cases hx
    rfl
  rcases step_eq_next s t h with ⟨i, u, a, v, hfe, he, rfl⟩ | hd
  · rw [finish_sched, exec_sched i u v he]
    rw [hf] at hfe
    unfold fetchEngine at hfe
    split at hfe
    · cases hfe
    · cases hfe
    · rw [hr _ _ _ _ _ _ hfe, hs]
    · split at hfe
      · rw [hr _ _ _ _ _ _ hfe, microPrelude_sched, hs]
      · cases hfe
    · cases hfe
  · rw [hf] at hd
    unfold fetchEngine at hd
    split at hd
    · cases hd; exact hs
    · exact (refreshStep_sched s t (Fetched.done.inj hd)).trans hs
    · exact (hu _ _ _ hd).elim
    · split at hd
      · exact (hu _ _ _ hd).elim
      · cases hd
        rw [finish_sched, microPrelude_sched, hs]
    · cases hd
      rw [publishStep_sched, hs]

end Sys2Proof.Machine
end

