-- ==== Sys2Proof/Laws/HostProgram.lean ====
section
/-! SUPPORT. What the run of a host program does, action by action: later proofs cite these and do not
unfold `runHost`. -/

set_option Elab.async false

namespace Sys2Proof.Machine

@[simp] theorem runEvents_nil (s : State) : runEvents [] s = .next s := rfl

/-- Events in two lots are the two lots one after the other. -/
theorem runEvents_append (l m : List Event) (s : State) :
    runEvents (l ++ m) s = andThen (runEvents l s) (runEvents m) := by
  induction l generalizing s with
  | nil => rfl
  | cons e l ih =>
    simp only [List.cons_append, runEvents]
    cases step { s with sched := e :: s.sched } with
    | next t => exact ih t
    | fault e => rfl
    | refused e => rfl

/-- A command that decodes takes effect as its instruction. -/
theorem runEvents_code (c : Code) (i : Instr) (s : State) (h : decode c = .ok i) :
    runEvents [.code c] s = exec i s := by
  have hs : step { s with sched := .code c :: s.sched } = andThen (exec i s) .next := by
    cases c <;> simp only [step, fetch, fetchCode, fetchHB16, fetchUop, decode] at h ⊢ <;> rw [h] <;> rfl
  simp only [runEvents, hs]
  cases exec i s <;> rfl

/-- Engine turns taken from the serial order are the steps of a machine to which no command comes. -/
theorem runEvents_engine (n : Nat) (s : State) (h : s.sched = []) :
    runEvents (List.replicate n .engine) s = runSteps n s := by
  induction n generalizing s with
  | zero => rfl
  | succ n ih =>
    have hs : step { s with sched := .engine :: s.sched } = step s := by
      unfold step fetch
      rw [h]
      dsimp only
      rw [show ({ s with sched := [] } : State) = s by rw [← h]]
    simp only [List.replicate_succ, runEvents, runSteps, hs]
    cases ht : step s with
    | next t => exact ih t (step_sched_nil s t h ht)
    | fault e => rfl
    | refused e => rfl

@[simp] theorem runHost_done (gaps : List (List Event)) (s : State) :
    runHost gaps [] s = .done (.next s) := by
  cases gaps <;> rfl

@[simp] theorem runHost_waiting (o : HostOp) (p : List HostOp) (s : State) :
    runHost [] (o :: p) s = .waiting (o :: p) s := rfl

/-- A command of a program, after its gap. -/
theorem runHost_command (gap : List Event) (gaps : List (List Event)) (i : Instr) (p : List HostOp)
    (s u t : State) (hg : runEvents gap s = .next u) (hi : exec i u = .next t)
    (hd : decode (encode i) = .ok i) :
    runHost (gap :: gaps) (.command (encode i) :: p) s = runHost gaps p t := by
  simp only [runHost, HostOp.code, runEvents_append, hg, andThen_next, runEvents_code _ i u hd, hi]
  rfl

/-- A poll, after its gap: it is repeated as long as BUSY is 1. -/
theorem runHost_pollIdle (gap : List Event) (gaps : List (List Event)) (p : List HostOp) (s u : State)
    (hg : runEvents gap s = .next u) :
    runHost (gap :: gaps) (.pollIdle :: p) s =
      runHost gaps (if u.reg.ctrl.busy then .pollIdle :: p else p) (busReply (ctrlWord u.reg.ctrl) u) := by
  have hx : exec .rdCtrl u = .next (busReply (ctrlWord u.reg.ctrl) u) := rfl
  have hb : (ctrlWord u.reg.ctrl).getLsbD 1 = u.reg.ctrl.busy := ctrlWord_busy u.reg.ctrl
  simp only [runHost, HostOp.code, runEvents_append, hg, andThen_next,
    runEvents_code (encode .rdCtrl) .rdCtrl u rfl, hx, HostOp.remaining]
  rw [show (busReply (ctrlWord u.reg.ctrl) u).rdata = ctrlWord u.reg.ctrl from rfl, hb]

/-- A poll that reads BUSY 1 polls again (R96). -/
theorem runHost_pollIdle_busy (gap : List Event) (gaps : List (List Event)) (p : List HostOp) (s u : State)
    (hg : runEvents gap s = .next u) (hb : u.reg.ctrl.busy = true) :
    runHost (gap :: gaps) (.pollIdle :: p) s =
      runHost gaps (.pollIdle :: p) (busReply (ctrlWord u.reg.ctrl) u) := by
  rw [runHost_pollIdle gap gaps p s u hg, if_pos hb]

/-- A poll that reads BUSY 0 ends (R96). -/
theorem runHost_pollIdle_idle (gap : List Event) (gaps : List (List Event)) (p : List HostOp) (s u : State)
    (hg : runEvents gap s = .next u) (hb : u.reg.ctrl.busy = false) :
    runHost (gap :: gaps) (.pollIdle :: p) s = runHost gaps p (busReply (ctrlWord u.reg.ctrl) u) := by
  rw [runHost_pollIdle gap gaps p s u hg, if_neg (by simp [hb])]

end Sys2Proof.Machine
end

