-- ==== Sys2Proof/Laws/Memory.lean ====
section
/-! SUPPORT. The laws of host memory: a read after a write, a write leaves every other byte, and every
memory operation keeps the canonical form. -/

set_option Elab.async false

namespace Sys2Proof.Machine

theorem Memory.read_write_self (m : Memory) (a : Nat) (b : Byte) :
    Memory.read (Memory.write m a b) a = some b := by
  induction m with
  | nil => simp [Memory.write, Memory.read]
  | cons c rest ih =>
    unfold Memory.write
    split
    · simp [Memory.read]
    · split
      · simp [Memory.read]
      · rw [Memory.read, if_neg (by assumption), if_neg (by assumption), ih]

theorem Memory.read_write_other (m : Memory) (a x : Nat) (b : Byte) (h : x ≠ a) :
    Memory.read (Memory.write m a b) x = Memory.read m x := by
  induction m with
  | nil => simp [Memory.write, Memory.read, Ne.symm h]
  | cons c rest ih =>
    unfold Memory.write
    split
    · rename_i hc
      simp [Memory.read, hc, Ne.symm h]
    · split
      · rename_i hc hlt
        rw [Memory.read, if_neg (Ne.symm h)]
        by_cases hx : x < a
        · have h1 : ¬ c.1 = x := by omega
          have h2 : x < c.1 := by omega
          simp [Memory.read, hx, h1, h2]
        · simp [hx]
      · simp only [Memory.read, ih]

theorem Memory.write_wfFrom (m : Memory) (lo a : Nat) (b : Byte) (hm : Memory.wfFrom lo m = true)
    (hlo : lo ≤ a) (ha : a < memSize) : Memory.wfFrom lo (Memory.write m a b) = true := by
  induction m generalizing lo with
  | nil => simp [Memory.write, Memory.wfFrom, hlo, ha]
  | cons c rest ih =>
    simp only [Memory.wfFrom, Bool.and_eq_true, decide_eq_true_eq] at hm
    obtain ⟨⟨h1, h2⟩, h3⟩ := hm
    unfold Memory.write
    split
    · rename_i hc
      subst hc
      simp [Memory.wfFrom, hlo, ha, h3]
    · split
      · rename_i hc hlt
        simp only [Memory.wfFrom, Bool.and_eq_true, decide_eq_true_eq]
        exact ⟨⟨hlo, ha⟩, ⟨by omega, h2⟩, h3⟩
      · rename_i hc hlt
        simp only [Memory.wfFrom, Bool.and_eq_true, decide_eq_true_eq]
        exact ⟨⟨h1, h2⟩, ih (c.1 + 1) h3 (by omega)⟩

/-- A byte write inside host memory keeps the canonical form. -/
theorem Memory.write_wf (m : Memory) (a : Nat) (b : Byte) (hm : Memory.wf m = true)
    (ha : a < memSize) : Memory.wf (Memory.write m a b) = true :=
  Memory.write_wfFrom m 0 a b hm (Nat.zero_le a) ha

/-- A word write inside host memory keeps the canonical form. -/
theorem Memory.writeWord_wf (m : Memory) (a : Nat) (w : Word) (hm : Memory.wf m = true)
    (ha : a + 4 ≤ memSize) : Memory.wf (Memory.writeWord m a w) = true := by
  unfold Memory.writeWord
  exact Memory.write_wf _ _ _ (Memory.write_wf _ _ _ (Memory.write_wf _ _ _
    (Memory.write_wf _ _ _ hm (by omega)) (by omega)) (by omega)) (by omega)

/-- Each byte of a written word reads back. -/
theorem Memory.read_writeWord_byte (m : Memory) (a j : Nat) (w : Word) (hj : j < 4) :
    Memory.read (Memory.writeWord m a w) (a + j) = some (byteOf w j) := by
  unfold Memory.writeWord
  obtain rfl | rfl | rfl | rfl : j = 0 ∨ j = 1 ∨ j = 2 ∨ j = 3 := by omega
  · rw [Memory.read_write_other _ _ _ _ (by omega), Memory.read_write_other _ _ _ _ (by omega),
      Memory.read_write_other _ _ _ _ (by omega), Nat.add_zero, Memory.read_write_self]
  · rw [Memory.read_write_other _ _ _ _ (by omega), Memory.read_write_other _ _ _ _ (by omega),
      Memory.read_write_self]
  · rw [Memory.read_write_other _ _ _ _ (by omega), Memory.read_write_self]
  · rw [Memory.read_write_self]

/-- A word write leaves every byte outside its four alone. -/
theorem Memory.read_writeWord_other (m : Memory) (a x : Nat) (w : Word) (h : x < a ∨ a + 4 ≤ x) :
    Memory.read (Memory.writeWord m a w) x = Memory.read m x := by
  unfold Memory.writeWord
  rw [Memory.read_write_other _ _ _ _ (by omega), Memory.read_write_other _ _ _ _ (by omega),
    Memory.read_write_other _ _ _ _ (by omega), Memory.read_write_other _ _ _ _ (by omega)]

/-- Host memory at reset has the canonical form. -/
theorem Memory.reset_wf : Memory.wf State.reset.mem = true := rfl

end Sys2Proof.Machine
end

