-- ==== Sys2Proof/Laws/PerInstr.lean ====
section
/-! SUPPORT. Statements about every instruction as syntax, proved one constructor at a time. -/

set_option Elab.async false

namespace Sys2Proof.Laws

/-- The code of an instruction is well formed: it passes the checks of R187, or is listed in R87. -/
def EncodesWellFormed.Statement (i : Instr) : Prop := (encode i).wellFormed = true

theorem EncodesWellFormed.rdCtrl : EncodesWellFormed.Statement .rdCtrl := by
  unfold EncodesWellFormed.Statement; decide

theorem EncodesWellFormed.rdTempo : EncodesWellFormed.Statement .rdTempo := by
  unfold EncodesWellFormed.Statement; decide

theorem EncodesWellFormed.rdRoot : EncodesWellFormed.Statement .rdRoot := by
  unfold EncodesWellFormed.Statement; decide

theorem EncodesWellFormed.rdScale : EncodesWellFormed.Statement .rdScale := by
  unfold EncodesWellFormed.Statement; decide

theorem EncodesWellFormed.rdDensity : EncodesWellFormed.Statement .rdDensity := by
  unfold EncodesWellFormed.Statement; decide

theorem EncodesWellFormed.rdBrightness : EncodesWellFormed.Statement .rdBrightness := by
  unfold EncodesWellFormed.Statement; decide

theorem EncodesWellFormed.rdMotion : EncodesWellFormed.Statement .rdMotion := by
  unfold EncodesWellFormed.Statement; decide

theorem EncodesWellFormed.rdSeed : EncodesWellFormed.Statement .rdSeed := by
  unfold EncodesWellFormed.Statement; decide

theorem EncodesWellFormed.rdEnable : EncodesWellFormed.Statement .rdEnable := by
  unfold EncodesWellFormed.Statement; decide

theorem EncodesWellFormed.rdCfgRate : EncodesWellFormed.Statement .rdCfgRate := by
  unfold EncodesWellFormed.Statement; decide

theorem EncodesWellFormed.rdCfgChan : EncodesWellFormed.Statement .rdCfgChan := by
  unfold EncodesWellFormed.Statement; decide

theorem EncodesWellFormed.rdRate : EncodesWellFormed.Statement .rdRate := by
  unfold EncodesWellFormed.Statement; decide

theorem EncodesWellFormed.rdChan : EncodesWellFormed.Statement .rdChan := by
  unfold EncodesWellFormed.Statement; decide

theorem EncodesWellFormed.rdBufBase : EncodesWellFormed.Statement .rdBufBase := by
  unfold EncodesWellFormed.Statement; decide

theorem EncodesWellFormed.rdRender : EncodesWellFormed.Statement .rdRender := by
  unfold EncodesWellFormed.Statement; decide

theorem EncodesWellFormed.rdReset : EncodesWellFormed.Statement .rdReset := by
  unfold EncodesWellFormed.Statement; decide

theorem EncodesWellFormed.rdMeter0 : EncodesWellFormed.Statement .rdMeter0 := by
  unfold EncodesWellFormed.Statement; decide

theorem EncodesWellFormed.rdMeter1 : EncodesWellFormed.Statement .rdMeter1 := by
  unfold EncodesWellFormed.Statement; decide

theorem EncodesWellFormed.rdMeter2 : EncodesWellFormed.Statement .rdMeter2 := by
  unfold EncodesWellFormed.Statement; decide

theorem EncodesWellFormed.rdMeter3 : EncodesWellFormed.Statement .rdMeter3 := by
  unfold EncodesWellFormed.Statement; decide

theorem EncodesWellFormed.rdMeter4 : EncodesWellFormed.Statement .rdMeter4 := by
  unfold EncodesWellFormed.Statement; decide

theorem EncodesWellFormed.rdMeter5 : EncodesWellFormed.Statement .rdMeter5 := by
  unfold EncodesWellFormed.Statement; decide

theorem EncodesWellFormed.rdMeter6 : EncodesWellFormed.Statement .rdMeter6 := by
  unfold EncodesWellFormed.Statement; decide

theorem EncodesWellFormed.wrCtrl (d : BitVec 32) :
    EncodesWellFormed.Statement (.wrCtrl d) := by
  rfl

theorem EncodesWellFormed.wrTempo (d : BitVec 32) :
    EncodesWellFormed.Statement (.wrTempo d) := by
  rfl

theorem EncodesWellFormed.wrRoot (d : BitVec 32) :
    EncodesWellFormed.Statement (.wrRoot d) := by
  rfl

theorem EncodesWellFormed.wrScale (d : BitVec 32) :
    EncodesWellFormed.Statement (.wrScale d) := by
  rfl

theorem EncodesWellFormed.wrDensity (d : BitVec 32) :
    EncodesWellFormed.Statement (.wrDensity d) := by
  rfl

theorem EncodesWellFormed.wrBrightness (d : BitVec 32) :
    EncodesWellFormed.Statement (.wrBrightness d) := by
  rfl

theorem EncodesWellFormed.wrMotion (d : BitVec 32) :
    EncodesWellFormed.Statement (.wrMotion d) := by
  rfl

theorem EncodesWellFormed.wrSeed (d : BitVec 32) :
    EncodesWellFormed.Statement (.wrSeed d) := by
  rfl

theorem EncodesWellFormed.wrEnable (d : BitVec 32) :
    EncodesWellFormed.Statement (.wrEnable d) := by
  rfl

theorem EncodesWellFormed.wrCfgRate (d : BitVec 32) :
    EncodesWellFormed.Statement (.wrCfgRate d) := by
  rfl

theorem EncodesWellFormed.wrCfgChan (d : BitVec 32) :
    EncodesWellFormed.Statement (.wrCfgChan d) := by
  rfl

theorem EncodesWellFormed.wrRate (d : BitVec 32) :
    EncodesWellFormed.Statement (.wrRate d) := by
  rfl

theorem EncodesWellFormed.wrChan (d : BitVec 32) :
    EncodesWellFormed.Statement (.wrChan d) := by
  rfl

theorem EncodesWellFormed.wrBufBase (d : BitVec 32) :
    EncodesWellFormed.Statement (.wrBufBase d) := by
  rfl

theorem EncodesWellFormed.wrRender (d : BitVec 32) :
    EncodesWellFormed.Statement (.wrRender d) := by
  rfl

theorem EncodesWellFormed.wrReset (d : BitVec 32) :
    EncodesWellFormed.Statement (.wrReset d) := by
  rfl

theorem EncodesWellFormed.wrMeter0 (d : BitVec 32) :
    EncodesWellFormed.Statement (.wrMeter0 d) := by
  rfl

theorem EncodesWellFormed.wrMeter1 (d : BitVec 32) :
    EncodesWellFormed.Statement (.wrMeter1 d) := by
  rfl

theorem EncodesWellFormed.wrMeter2 (d : BitVec 32) :
    EncodesWellFormed.Statement (.wrMeter2 d) := by
  rfl

theorem EncodesWellFormed.wrMeter3 (d : BitVec 32) :
    EncodesWellFormed.Statement (.wrMeter3 d) := by
  rfl

theorem EncodesWellFormed.wrMeter4 (d : BitVec 32) :
    EncodesWellFormed.Statement (.wrMeter4 d) := by
  rfl

theorem EncodesWellFormed.wrMeter5 (d : BitVec 32) :
    EncodesWellFormed.Statement (.wrMeter5 d) := by
  rfl

theorem EncodesWellFormed.wrMeter6 (d : BitVec 32) :
    EncodesWellFormed.Statement (.wrMeter6 d) := by
  rfl

theorem EncodesWellFormed.paramRefresh : EncodesWellFormed.Statement .paramRefresh := by
  unfold EncodesWellFormed.Statement; decide

theorem EncodesWellFormed.reconcile : EncodesWellFormed.Statement .reconcile := by
  unfold EncodesWellFormed.Statement; decide

theorem EncodesWellFormed.timingRecompute : EncodesWellFormed.Statement .timingRecompute := by
  unfold EncodesWellFormed.Statement; decide

theorem EncodesWellFormed.scaleRebuild : EncodesWellFormed.Statement .scaleRebuild := by
  unfold EncodesWellFormed.Statement; decide

theorem EncodesWellFormed.walkerAdvance : EncodesWellFormed.Statement .walkerAdvance := by
  unfold EncodesWellFormed.Statement; decide

theorem EncodesWellFormed.clockTick : EncodesWellFormed.Statement .clockTick := by
  unfold EncodesWellFormed.Statement; decide

theorem EncodesWellFormed.arpTrigger : EncodesWellFormed.Statement .arpTrigger := by
  unfold EncodesWellFormed.Statement; decide

theorem EncodesWellFormed.percGate : EncodesWellFormed.Statement .percGate := by
  unfold EncodesWellFormed.Statement; decide

theorem EncodesWellFormed.percTrigger : EncodesWellFormed.Statement .percTrigger := by
  unfold EncodesWellFormed.Statement; decide

theorem EncodesWellFormed.padTrigger : EncodesWellFormed.Statement .padTrigger := by
  unfold EncodesWellFormed.Statement; decide

theorem EncodesWellFormed.voiceStepArp : EncodesWellFormed.Statement .voiceStepArp := by
  unfold EncodesWellFormed.Statement; decide

theorem EncodesWellFormed.voiceStepPad : EncodesWellFormed.Statement .voiceStepPad := by
  unfold EncodesWellFormed.Statement; decide

theorem EncodesWellFormed.voiceTriggerArp : EncodesWellFormed.Statement .voiceTriggerArp := by
  unfold EncodesWellFormed.Statement; decide

theorem EncodesWellFormed.voiceTriggerPad : EncodesWellFormed.Statement .voiceTriggerPad := by
  unfold EncodesWellFormed.Statement; decide

theorem EncodesWellFormed.percStep : EncodesWellFormed.Statement .percStep := by
  unfold EncodesWellFormed.Statement; decide

theorem EncodesWellFormed.mixDelay : EncodesWellFormed.Statement .mixDelay := by
  unfold EncodesWellFormed.Statement; decide

theorem EncodesWellFormed.bandFollow : EncodesWellFormed.Statement .bandFollow := by
  unfold EncodesWellFormed.Statement; decide

theorem EncodesWellFormed.frameWrite : EncodesWellFormed.Statement .frameWrite := by
  unfold EncodesWellFormed.Statement; decide

theorem EncodesWellFormed.meterPublish : EncodesWellFormed.Statement .meterPublish := by
  unfold EncodesWellFormed.Statement; decide

theorem EncodesWellFormed.rngInit : EncodesWellFormed.Statement .rngInit := by
  unfold EncodesWellFormed.Statement; decide

theorem EncodesWellFormed.rngFraction : EncodesWellFormed.Statement .rngFraction := by
  unfold EncodesWellFormed.Statement; decide

theorem EncodesWellFormed.rngIntRange : EncodesWellFormed.Statement .rngIntRange := by
  unfold EncodesWellFormed.Statement; decide

theorem EncodesWellFormed.noteFreqArp : EncodesWellFormed.Statement .noteFreqArp := by
  unfold EncodesWellFormed.Statement; decide

theorem EncodesWellFormed.noteFreqPad : EncodesWellFormed.Statement .noteFreqPad := by
  unfold EncodesWellFormed.Statement; decide

theorem EncodesWellFormed.loudnessAccum : EncodesWellFormed.Statement .loudnessAccum := by
  unfold EncodesWellFormed.Statement; decide

theorem EncodesWellFormed.construct : EncodesWellFormed.Statement .construct := by
  unfold EncodesWellFormed.Statement; decide

end Sys2Proof.Laws
end

