-- ==== Sys2Proof/Tests/Slice0.lean ====
section
/-! SUPPORT. Tests on single steps. Their expected values come from spec/: a vector of
95_test_vectors.md, an example of a rule, or a table of 10_state.md and 30_encoding.md; each says which.
The theorems named `witness_…` show a state and operands that meet the hypotheses of a statement of
Certificates/Slice0/Obligations.lean, one for each of its clauses. -/

set_option Elab.async false

namespace Sys2Proof.Tests

open Sys2Proof.Machine

/-! ### Well-formedness: each check refuses an ill-formed code -/

theorem test_reserved_bits_are_ill_formed : (Code.hb16 0x1004#16 0#32).wellFormed = false := by decide

theorem test_misaligned_is_ill_formed : (Code.hb16 0x0005#16 0#32).wellFormed = false := by decide

theorem test_unmapped_is_ill_formed : (Code.hb16 0x005C#16 0#32).wellFormed = false := by decide

theorem test_last_offset_is_well_formed : (Code.hb16 0x0058#16 0#32).wellFormed = true := by decide

theorem test_uop_zero_is_ill_formed : (Code.uop 0x00#8).wellFormed = false := by decide

theorem test_uop_odd_is_ill_formed : (Code.uop 0x03#8).wellFormed = false := by decide

theorem test_uop_above_the_table_is_ill_formed : (Code.uop 0x30#8).wellFormed = false := by decide

/-! ### Decoding: every row's word, written out from R24, R83 and R87 -/

/-- Read commands: 0x0000 to 0x0058 in steps of 4 (R24, R97). -/
theorem test_decode_reads :
    ([(0x0000, .rdCtrl), (0x0004, .rdTempo), (0x0008, .rdRoot), (0x000C, .rdScale), (0x0010, .rdDensity),
    (0x0014, .rdBrightness), (0x0018, .rdMotion), (0x001C, .rdSeed), (0x0020, .rdEnable),
    (0x0024, .rdCfgRate), (0x0028, .rdCfgChan), (0x002C, .rdRate), (0x0030, .rdChan),
    (0x0034, .rdBufBase), (0x0038, .rdRender), (0x003C, .rdReset), (0x0040, .rdMeter0),
    (0x0044, .rdMeter1), (0x0048, .rdMeter2), (0x004C, .rdMeter3), (0x0050, .rdMeter4),
    (0x0054, .rdMeter5), (0x0058, .rdMeter6)] :
      List (Nat × Instr)).all (fun e => decodeTableWord 16 e.1 == some e.2) = true := by decide

/-- Write commands: 0x8000 to 0x8058, the data word 0x12345678 in bits 47..16 (R24, R81, R97). -/
theorem test_decode_writes :
    ([(0x123456788000, .wrCtrl 0x12345678#32), (0x123456788004, .wrTempo 0x12345678#32),
    (0x123456788008, .wrRoot 0x12345678#32), (0x12345678800C, .wrScale 0x12345678#32),
    (0x123456788010, .wrDensity 0x12345678#32), (0x123456788014, .wrBrightness 0x12345678#32),
    (0x123456788018, .wrMotion 0x12345678#32), (0x12345678801C, .wrSeed 0x12345678#32),
    (0x123456788020, .wrEnable 0x12345678#32), (0x123456788024, .wrCfgRate 0x12345678#32),
    (0x123456788028, .wrCfgChan 0x12345678#32), (0x12345678802C, .wrRate 0x12345678#32),
    (0x123456788030, .wrChan 0x12345678#32), (0x123456788034, .wrBufBase 0x12345678#32),
    (0x123456788038, .wrRender 0x12345678#32), (0x12345678803C, .wrReset 0x12345678#32),
    (0x123456788040, .wrMeter0 0x12345678#32), (0x123456788044, .wrMeter1 0x12345678#32),
    (0x123456788048, .wrMeter2 0x12345678#32), (0x12345678804C, .wrMeter3 0x12345678#32),
    (0x123456788050, .wrMeter4 0x12345678#32), (0x123456788054, .wrMeter5 0x12345678#32),
    (0x123456788058, .wrMeter6 0x12345678#32)] :
      List (Nat × Instr)).all (fun e => decodeTableWord 48 e.1 == some e.2) = true := by
  decide +kernel

/-- Micro-operations: the table of R87. -/
theorem test_decode_uops :
    ([(0x02, .paramRefresh), (0x04, .reconcile), (0x06, .timingRecompute), (0x08, .scaleRebuild),
    (0x0A, .walkerAdvance), (0x0C, .clockTick), (0x0E, .arpTrigger), (0x10, .percGate),
    (0x12, .percTrigger), (0x14, .padTrigger), (0x16, .voiceStepArp), (0x17, .voiceStepPad),
    (0x18, .voiceTriggerArp), (0x19, .voiceTriggerPad), (0x1A, .percStep), (0x1C, .mixDelay),
    (0x1E, .bandFollow), (0x20, .frameWrite), (0x22, .meterPublish), (0x24, .rngInit),
    (0x26, .rngFraction), (0x28, .rngIntRange), (0x2A, .noteFreqArp), (0x2B, .noteFreqPad),
    (0x2C, .loudnessAccum), (0x2E, .construct)] :
      List (Nat × Instr)).all (fun e => decodeTableWord 8 e.1 == some e.2) = true := by decide

/-- A row's 16 bits alone leave the data word at 0. -/
theorem test_decode_write_without_data :
    decodeTableWord 16 0x8008 = some (.wrRoot 0#32) := by decide

/-- R94's example: `WR TEMPO, 120.0` is command 0x8004 with data 0x42F00000. -/
theorem test_encode_wr_tempo : encode (.wrTempo 0x42F00000#32) = .hb16 0x8004#16 0x42F00000#32 := by
  decide

/-- R234's example: RSV and misaligned gives cause 3, not 2. -/
theorem test_decode_priority :
    decode (.hb16 0x1005#16 0#32) = .error (.bus .reservedBits) := by decide

/-- R89. -/
theorem test_decode_reserved_uop : decode (.uop 0x2F#8) = .error (.reservedUop 0x2F#8) := by decide

/-- R96: CONSTRUCT fs, ch expands to three commands. -/
theorem test_construct_expands :
    constructWith 44100#32 1#32 =
      [raw 0x8024#16 44100#32, raw 0x8028#16 1#32, raw 0x803C#16 0#32] := by decide

/-! ### Binary32 -/

/-- R24, R29 and R172: decimal literals as patterns. -/
theorem test_literals :
    fofRatio 35 100 = 0x3EB33333#32 ∧ fofRatio 12 100 = 0x3DF5C28F#32 ∧ fofInt 120 = 0x42F00000#32 ∧
      fofRatio 37 100 = 0x3EBD70A4#32 := by decide +kernel

/-- V-CLK-1: 48000 · 60 / 130 = 22153.846, rounded. -/
theorem test_fdiv_rounds :
    fdiv (fmul (fofInt 48000) (fofInt 60)) (fofInt 130) = 0x46AD13B1#32 := by decide +kernel

/-- R255 corner case (b): 16777217 rounds to 16777216.0. -/
theorem test_int_rounds_to_even : fofInt 16777217 = fofInt 16777216 := by decide +kernel

/-- D40: round half away from zero. -/
theorem test_round_half_away :
    fround 0x3F000000#32 = 0x3F800000#32 ∧ fround 0xBF000000#32 = 0xBF800000#32 := by decide +kernel

/-- D2: subnormals are kept: half of the least normal value. -/
theorem test_subnormal_kept : fmul 0x00800000#32 0x3F000000#32 = 0x00400000#32 := by decide +kernel

/-- IEEE 754 (D3): the root of 2 is 0x3FB504F3. -/
theorem test_sqrt : fsqrt (fofInt 2) = 0x3FB504F3#32 := by decide +kernel

/-- IEEE 754: ∞ − ∞ is a NaN, and compares false with everything (R168 corner case (c)). -/
theorem test_inf_minus_inf :
    isNaN (fsub 0x7F800000#32 0x7F800000#32) = true ∧ flt 0x7FC00000#32 0x7FC00000#32 = false ∧
      fle 0x7FC00000#32 0x7FC00000#32 = false :=
  ⟨by unfold fsub; exact isNaN_nanOf _ _ _, by decide +kernel, by decide +kernel⟩

/-! ### A concrete state: the machine after reset with the REF presets (D65), all units disabled -/

/-- The REF arpeggio preset at 48000 Hz (R252). -/
def refArp : VoiceCfg :=
  ⟨0x43700000#32, 0x45700000#32, 0x3F000000#32, 0x463B8000#32, 0xBE99999A#32, 0#32⟩

/-- The REF pad preset at 48000 Hz (R252). -/
def refPad : VoiceCfg :=
  ⟨0x46960000#32, 0x46E10001#32, 0x3F333333#32, 0x478CA000#32, 0x3E99999A#32, -12#32⟩

/-- An idle machine with every field concrete. -/
def base : State where
  reg := { Regs.por with enable := 0#3 }
  cfg :=
    { rate := 48000#32, C := 2#32, fs := 0x473B8000#32, percDecay := 0x3F7F14A4#32
      arp := refArp, pad := refPad }
  ev := ⟨false, false, false, false⟩
  sh :=
    { bpm := 0x42F00000#32, root := 60#32, scale := 0#2, density := 0x3EB33333#32
      brightness := 0x3F000000#32, motion := 0#32, seed := 1#32
      arpEn := false, percEn := false, padEn := false }
  recon := ⟨0x42F00000#32, 0#2⟩
  rng := ⟨1, 0#32, 6#32, 0#32, 0#32⟩
  tim := ⟨0x46BB8000#32, 0x45BB8000#32, 0x463B8000#32, 0x473B8000#32⟩
  clk := ⟨0#32, 0#32, 0#32⟩
  walk := ⟨[0, 2, 4, 5, 7, 9, 11], 7, 1⟩
  arp := Voice.zero
  pad := Voice.zero
  perc := ⟨0#32, 0#32, 0#32⟩
  mix := ⟨0#32, 0#32, 0#32, 0#32⟩
  dly := ⟨0#32, 0#32⟩
  band := ⟨0#32, 0#32⟩
  acc := ⟨0#32, 0#32, 0#32, 0#32⟩
  meter := ⟨0#32, 0#32, 0#32, 0#32, 0#32, 0#32, 0#32⟩
  seq := ⟨.idle, 0, 0, 0⟩
  blk := ⟨0#32, 0#32⟩
  refr := ⟨false, 0#32, 0#32, 0#2, 0#32, 0#32, 0#32, 0#32, 0#3⟩
  mem := []
  rdata := 0#32
  sched := []

/-- The machine in a block of one frame at base 0x1000, at sequencer position q. -/
def busyAt (q : Seq) : State :=
  { base with
    reg := { base.reg with ctrl := ⟨true, true, false, 0#3⟩ }
    seq := q
    blk := ⟨1#32, 0x1000#32⟩ }

/-- A bus command that comes next. -/
def code (cmd : BitVec 16) (d : Word) : Event := .code (.hb16 cmd d)

/-- A field of a next state. -/
def field {α : Type} (f : State → α) (r : Result) : Option α :=
  match r with
  | .next t => some (f t)
  | .fault _ => none
  | .refused _ => none

/-- CTRL as RD CTRL reads it. -/
def ctrlOf (s : State) : Word := ctrlWord s.reg.ctrl

theorem inv_base : Inv base where
  memory := by decide
  causeClear := fun _ => rfl
  causeLegal := by decide
  motion := by decide +kernel
  rate := by decide
  chan := by decide
  fs := by decide +kernel
  shDensity := by decide +kernel
  shBrightness := by decide +kernel
  shMotion := by decide +kernel
  shBpm := by decide +kernel
  table := by decide
  length := by decide
  index := by decide
  busy := by decide
  base := by decide
  position := ⟨rfl, rfl, rfl⟩
  port := fun op h => by cases h

theorem inv_busyAt (q : Seq) (hp : q.phase ≠ .idle) (h : positionLegal 1 q) : Inv (busyAt q) where
  memory := inv_base.memory
  causeClear := fun _ => rfl
  causeLegal := Nat.zero_le 5
  motion := inv_base.motion
  rate := inv_base.rate
  chan := inv_base.chan
  fs := inv_base.fs
  shDensity := inv_base.shDensity
  shBrightness := inv_base.shBrightness
  shMotion := inv_base.shMotion
  shBpm := inv_base.shBpm
  table := inv_base.table
  length := inv_base.length
  index := inv_base.index
  busy := ⟨fun _ => hp, fun _ => rfl⟩
  base := (by decide : (0x1000#32 : Word).toNat % 4 = 0)
  position := h
  port := fun op h => by cases h

/-! ### Host bus (V-HOST, R188, R189) -/

/-- H1 and H2: 1.5 is clamped to 1.0, −2.0 to 0.0. -/
theorem test_wr_motion :
    field (·.reg.motion) (exec (.wrMotion 0x3FC00000#32) base) = some 0x3F800000#32 ∧
      field (·.reg.motion) (exec (.wrMotion 0xC0000000#32) base) = some 0x00000000#32 := by
  decide +kernel

/-- H3: a NaN raises ParamNaN(MOTION). -/
theorem test_wr_motion_nan : exec (.wrMotion 0xFFC00000#32) base = .fault (.paramNaN .motion) := by rfl

/-- H4: bits 1:0 of 6 are 2. -/
theorem test_wr_scale : field (·.reg.scale) (exec (.wrScale 6#32) base) = some 2#2 := by decide +kernel

/-- H5: bits 2:0 of 0xFF are 7. -/
theorem test_wr_enable : field (·.reg.enable) (exec (.wrEnable 0xFF#32) base) = some 7#3 := by
  decide +kernel

/-- H6: 0x1003 reads back as 0x1000. -/
theorem test_wr_buf_base :
    field (·.rdata) (andThen (exec (.wrBufBase 0x1003#32) base) (exec .rdBufBase)) =
      some 0x1000#32 := by decide +kernel

/-- H7: a write of RATE is ignored, RD RATE answers 0xBB80, and CTRL records nothing. -/
theorem test_wr_rate :
    field (·.rdata) (andThen (exec (.wrRate 5#32) base) (exec .rdRate)) = some 0xBB80#32 ∧
      field ctrlOf (exec (.wrRate 5#32) base) = some 1#32 := by decide +kernel

/-- H8: a write of METER0 is ignored. -/
theorem test_wr_meter0 :
    field (·.rdata) (andThen (exec (.wrMeter0 0x3F800000#32) base) (exec .rdMeter0)) =
      some 0#32 := by decide +kernel

/-- H10: a zero-frame request starts no block. -/
theorem test_wr_render_zero :
    field (fun t => (t.reg.render, t.reg.ctrl.busy)) (exec (.wrRender 0#32) base) =
      some (0#32, false) := by decide +kernel

/-- R217's example: BUF_BASE 0x1000 is latched and a block of 4 frames starts. -/
theorem test_wr_render_starts :
    field (fun t => (t.blk, t.seq.phase, t.reg.ctrl.busy))
        (exec (.wrRender 4#32) { base with reg := { base.reg with bufBase := 0x400#30 } }) =
      some (⟨4#32, 0x1000#32⟩, .refresh, true) := by decide +kernel

/-- H12: a write of 0 clears HOSTV. -/
theorem test_wr_ctrl_zero : field ctrlOf (exec (.wrCtrl 0#32) base) = some 0#32 := by decide +kernel

/-- H13 and R189's example: CTRL 0x25, written 0x5, reads 1. -/
theorem test_wr_ctrl_clears :
    ctrlWord ⟨true, false, true, 2#3⟩ = 0x25#32 ∧
      ctrlWord (ctrlAfterWrite ⟨true, false, true, 2#3⟩ 0x5#32) = 0x01#32 := by decide

/-- The other parameter registers store the word (R191, R193, R197, R199, R203, R207, R209). -/
theorem test_wr_words :
    field (·.reg.tempo) (exec (.wrTempo 0x43020000#32) base) = some 0x43020000#32 ∧
      field (·.reg.root) (exec (.wrRoot 0xFFFFFFF4#32) base) = some (-12#32) ∧
      field (·.reg.density) (exec (.wrDensity 0x40000000#32) base) = some 0x40000000#32 ∧
      field (·.reg.brightness) (exec (.wrBrightness 0xBF800000#32) base) = some 0xBF800000#32 ∧
      field (·.reg.seed) (exec (.wrSeed 42#32) base) = some 42#32 ∧
      field (·.reg.cfgRate) (exec (.wrCfgRate 44100#32) base) = some 44100#32 ∧
      field (·.reg.cfgChan) (exec (.wrCfgChan 0#32) base) = some 0#32 := by decide +kernel

/-- V-RESET-1: what the registers read after power-on reset. -/
theorem test_reset_registers :
    ([.rdCtrl, .rdTempo, .rdRoot, .rdScale, .rdDensity, .rdBrightness, .rdMotion, .rdSeed, .rdEnable,
      .rdCfgRate, .rdCfgChan, .rdRate, .rdChan, .rdBufBase, .rdRender, .rdReset, .rdMeter0, .rdMeter6] :
        List Instr).map (fun i => field (·.rdata) (exec i State.reset)) =
      [1#32, 0x42F00000#32, 60#32, 0#32, 0x3EB33333#32, 0x3F000000#32, 0#32, 1#32, 7#32, 48000#32, 2#32,
        48000#32, 2#32, 0#32, 0#32, 0#32, 0#32, 0#32].map some := by decide +kernel

/-! ### Refusals (V-EXC-1, V-EXC-2) -/

/-- Each refused command word from CTRL 1 leaves the CTRL word of V-EXC-1. -/
theorem test_refused_words :
    ([(0x0005, 0x25), (0x1004, 0x35), (0x1005, 0x35), (0x005C, 0x15), (0x8FFC, 0x15)] :
        List (Nat × Nat)).all (fun e =>
      field ctrlOf (step (base.withFetchWord 16 e.1)) == some (BitVec.ofNat 32 e.2)) = true := by
  decide +kernel

/-- A refused read answers 0; a refused write leaves the last answer (R232). -/
theorem test_refused_reads_answer_zero :
    field (·.rdata) (step ({ base with rdata := 9#32 }.withFetchWord 16 0x005C)) = some 0#32 ∧
      field (·.rdata) (step ({ base with rdata := 9#32 }.withFetchWord 16 0x805C)) = some 9#32 := by
  decide +kernel

/-- Causes 4 and 5 while BUSY. -/
theorem test_refused_while_busy :
    field ctrlOf (exec (.wrRender 1#32) (busyAt ⟨.frame, 0, 1, 0⟩)) = some 0x47#32 ∧
      field ctrlOf (exec (.wrReset 0#32) (busyAt ⟨.frame, 0, 1, 0⟩)) = some 0x57#32 := by decide +kernel

/-- V-EXC-2: the first cause is kept. -/
theorem test_first_cause_kept :
    field ctrlOf (runSteps 2 { base with sched := [code 0x1005#16 0#32, code 0x0060#16 0#32] }) =
      some 0x35#32 := by decide +kernel

/-! ### Walker (V-WALK) and scale ROM (L1-9) -/

/-- V-WALK-2, V-WALK-3, V-WALK-4. -/
theorem test_walker_steps :
    walkerStep ⟨[], 7, 0⟩ (-1) = 0 ∧ walkerStep ⟨[], 7, 6⟩ 1 = 6 ∧ walkerStep ⟨[], 5, 4⟩ 1 = 4 ∧
      [-1, 0, 1].map (walkerStep ⟨[], 7, 3⟩) = [2, 3, 4] := by decide

/-- L1-9. -/
theorem test_scale_rows :
    ([0#2, 1#2, 2#2, 3#2] : List (BitVec 2)).map scaleRow =
      [[0, 2, 4, 5, 7, 9, 11], [0, 2, 3, 5, 7, 9, 10], [0, 3, 5, 7, 10], [0, 2, 3, 5, 7, 8, 11]] := by
  decide

/-- R136's and R137's examples: index 1 of Ionian on root 60 is note 62, and 50 with the REF pad
transpose. -/
theorem test_note_numbers : noteNumber base .arp = 62 ∧ noteNumber base .pad = 50 := by decide

/-! ### Clock (V-CLK) -/

/-- V-CLK-1: 130, 19, −∞, 301 and +∞ beats per minute at 48000 Hz. -/
theorem test_periods :
    periodsOf (fofInt 48000) (fofInt 130) =
        ⟨0x46AD13B1#32, 0x45AD13B1#32, 0x462D13B1#32, 0x472D13B1#32⟩ ∧
      (periodsOf (fofInt 48000) (fofInt 19)).per16 = fofInt 36000 ∧
      (periodsOf (fofInt 48000) 0xFF800000#32).per16 = fofInt 36000 ∧
      (periodsOf (fofInt 48000) (fofInt 301)).per16 = fofInt 2400 ∧
      (periodsOf (fofInt 48000) 0x7F800000#32).per16 = fofInt 2400 ∧
      (periodsOf (fofInt 44100) (fofInt 96)).per16 = 0x45D75500#32 := by decide +kernel

/-- R262's example: 5000 and a period of 2400 fire twice: 2601, then 202. -/
theorem test_tempo_catch_up :
    wraps (fofInt 5000) (fofInt 2400) = true ∧ counterTick (fofInt 5000) (fofInt 2400) = fofInt 2601 ∧
      wraps (fofInt 2601) (fofInt 2400) = true ∧
      counterTick (fofInt 2601) (fofInt 2400) = fofInt 202 ∧
      wraps (fofInt 202) (fofInt 2400) = false := by decide +kernel

/-- R124's example: at 120 beats per minute the 6000th tick fires the sixteenth event alone. -/
theorem test_clock_tick :
    field (fun t => (t.ev.ev16, t.ev.ev8, t.clk.c16))
        (exec .clockTick { base with clk := ⟨fofInt 5999, fofInt 5999, fofInt 5999⟩ }) =
      some (true, false, 0#32) := by decide +kernel

/-! ### Voices (V-VOICE) -/

/-- V-VOICE-5: the soft clip and the saw. -/
theorem test_soft_clip_and_saw :
    softClip (fofInt 1) = 0x3F2AAAAA#32 ∧ softClip (fofInt 2) = 0x3F2AAAAA#32 ∧
      softClip (fofInt (-1)) = 0xBF2AAAAA#32 ∧ softClip (fofRatio 1 2) = 0x3EEAAAAB#32 ∧
      saw 0x40490FDB#32 = 0xBF800000#32 ∧ saw 0#32 = 0#32 := by decide +kernel

/-- V-VOICE-1, step 1: the first phase, the level and the detune in cents (40 at brightness 0.5, L1-10). -/
theorem test_voice_step :
    phaseStep 0#32 (phaseInc (fofInt 440) (fofInt 48000)) = 0x3D6BE9A5#32 ∧
      envLevel refArp (fofRatio 1 2) (fofInt 1) (fofInt 1) = 0x3F7FFA8A#32 ∧
      detuneCents (fofRatio 1 2) = fofInt 40 := by decide +kernel

/-- V-VOICE-1, step 1: L and R, from its phases 0.057595868 and 0.058942102, its level, and the REF blend
factor 0.25 (D65). -/
theorem test_voice_output :
    panInto (halfOut (fofRatio 1 4) ⟨0x3D6BE9A5#32, 0x3D716D46#32, fofInt 440, 0x3F7FFA8A#32, fofInt 1⟩)
        refArp.pan base.mix =
      ⟨0x3B457C3F#32, 0x3AD4AD31#32, 0#32, 0#32⟩ := by decide +kernel

/-- R133's example: the pad resets its phases, the arpeggio voice keeps them. -/
theorem test_voice_trigger :
    field (fun t => (t.pad, t.arp))
        (andThen
          (exec .voiceTriggerPad { base with
            pad := ⟨fofInt 3, fofInt 2, fofInt 50, fofRatio 1 5, fofInt 9⟩
            arp := ⟨fofInt 3, fofInt 2, fofInt 50, fofRatio 1 5, fofInt 9⟩ })
          (exec .voiceTriggerArp)) =
      some (⟨0#32, 0#32, fofInt 50, fofInt 1, 0#32⟩, ⟨fofInt 3, fofInt 2, fofInt 50, fofInt 1, 0#32⟩) := by
  decide +kernel

/-! ### Percussion (V-PERC) -/

/-- R154's example and V-PERC-2: the coefficient's argument is 0.1, then the two filter states, and the
contribution c, for the draw u = 0.25703275. -/
theorem test_perc_step :
    percFrac (fofInt 48000) (fofRatio 1 2) = fofRatio 1 10 ∧
      (percAdvance (fofRatio 1 10) 0x3F7F14A4#32 0x3E8399CC#32 ⟨fofInt 1, 0#32, 0#32⟩).env =
        0x3F7F14A4#32 ∧
      percOut (fofInt 1)
          (percAdvance (fofRatio 1 10) 0x3F7F14A4#32 0x3E8399CC#32 ⟨fofInt 1, 0#32, 0#32⟩) =
        0xBC16792B#32 := by decide +kernel

/-- R152's example: from any envelope to 1.0, the filter states kept. -/
theorem test_perc_trigger :
    field (·.perc) (exec .percTrigger { base with perc := ⟨fofRatio 2 100, 5#32, 6#32⟩ }) =
      some ⟨fofInt 1, 5#32, 6#32⟩ := by decide +kernel

/-! ### Renderer (V-MIX, V-LOUD, V-METER, R174) -/

/-- R172's example: the second frame's echo. -/
theorem test_mix_delay :
    field (fun t => (t.dly.L, t.dly.R))
        (exec .mixDelay { base with
          mix := ⟨0x3BC566AA#32, 0x3B5495F3#32, 0#32, 0#32⟩
          dly := ⟨0x3B457C3F#32, 0x3AD4AD31#32⟩ }) =
      some (0x3BDD97CE#32, 0x3B6EA37C#32) := by decide +kernel

/-- V-MIX: the impulse response at brightness 0.5: 0.5, then 0.1225. -/
theorem test_impulse :
    fadd 0#32 (fmul (delayGain (fofRatio 1 2)) (fofRatio 1 2)) = fofRatio 1225 10000 := by
  decide +kernel

/-- V-BAND: mono of 0.5 and 0.25 is 0.375, and a follower with coefficient 0.2 goes to 0.075. -/
theorem test_band :
    monoOf ⟨0#32, 0#32, fofRatio 1 2, fofRatio 1 4⟩ = fofRatio 375 1000 ∧
      onePole (fofRatio 1 5) (fofRatio 375 1000) 0#32 = fofRatio 75 1000 := by decide +kernel

/-- R175's example: frames (0.5, 0.25) and (0.0, −0.5) give 0.5625. -/
theorem test_loudness :
    field (·.acc.sq)
        (andThen
          (exec .loudnessAccum { base with mix := ⟨0#32, 0#32, fofRatio 1 2, fofRatio 1 4⟩ }) fun t =>
          exec .loudnessAccum { t with mix := ⟨0#32, 0#32, 0#32, 0xBF000000#32⟩ }) =
      some (fofRatio 5625 10000) := by decide +kernel

/-- R174's example: base 0x1000, C 2, frame 3 writes at 0x1018 and 0x101C; the bytes of 0x3AEADE4E are
R61's example. -/
theorem test_frame_write :
    field (fun t => ([0x1018, 0x1019, 0x101A, 0x101B].map (Memory.read t.mem), Memory.readWord t.mem 0x101C,
          Memory.read t.mem 0x1017, Memory.read t.mem 0x1020))
        (exec .frameWrite { busyAt ⟨.frame, 3, 12, 0⟩ with
          mix := ⟨0#32, 0#32, 0x3AEADE4E#32, 0x3A7CEF68#32⟩ }) =
      some ([some 0x4E#8, some 0xDE#8, some 0xEA#8, some 0x3A#8], some 0x3A7CEF68#32, none, none) := by
  decide +kernel

/-- R238's example: base 0xFFFFFFF8, C 2: frame 0 fits, frame 1 raises BufferWrap(0x100000000). -/
theorem test_buffer_wrap :
    field (fun t => Memory.readWord t.mem 0xFFFFFFFC)
        (exec .frameWrite { busyAt ⟨.frame, 0, 12, 0⟩ with blk := ⟨2#32, 0xFFFFFFF8#32⟩ }) =
      some (some 0#32) ∧
    exec .frameWrite { busyAt ⟨.frame, 1, 12, 0⟩ with blk := ⟨2#32, 0xFFFFFFF8#32⟩ } =
      .fault (.bufferWrap 0x100000000) := ⟨by decide +kernel, rfl⟩

/-- V-METER-1: from 0 towards 0.5: 0.1, then 0.18. -/
theorem test_meter_smoothing :
    smooth 0#32 (fofRatio 1 2) = fofRatio 1 10 ∧ smooth (fofRatio 1 10) (fofRatio 1 2) = fofRatio 18 100 := by
  decide +kernel

/-- R176: one frame, METER2 from the pad level 0.5, and the end of the block. -/
theorem test_meter_publish :
    field (fun t => (t.meter.m2, t.reg.render, t.reg.ctrl.busy))
        (exec .meterPublish { busyAt ⟨.publish, 0, 0, 0⟩ with
          pad := ⟨0#32, 0#32, 0#32, fofRatio 1 2, 0#32⟩ }) =
      some (fofRatio 1 10, 1#32, false) := by decide +kernel

/-- R167 and R197's, R199's examples: density 2.0 is clamped to 1.0, brightness −1.0 to 0.0; R203's: seed 42
is copied. -/
theorem test_param_refresh :
    field (fun t => (t.sh.density, t.sh.brightness, t.sh.seed))
        (exec .paramRefresh { base with reg := { base.reg with
          density := 0x40000000#32, brightness := 0xBF800000#32, seed := 42#32 } }) =
      some (0x3F800000#32, 0x00000000#32, 42#32) := by decide +kernel

/-- V-EXC-3: a NaN in TEMPO; V-HOST-2: the same with HOSTV = 0 raises nothing. -/
theorem test_param_nan :
    exec .paramRefresh { base with reg := { base.reg with tempo := 0x7FC00000#32 } } =
        .fault (.paramNaN .tempo) ∧
      field (·.sh.bpm) (exec .paramRefresh { base with reg := { base.reg with
        tempo := 0x7FC00000#32, ctrl := ⟨false, false, false, 0#3⟩ } }) = some 0x42F00000#32 :=
  ⟨rfl, by decide +kernel⟩

/-- R255's example and V-RESET-2: rate 0 and −1 channels are substituted; 44100 and 8 are kept. -/
theorem test_construct :
    field (fun t => (t.cfg.rate, t.cfg.C)) (exec .construct { base with reg := { base.reg with
        cfgRate := 0#32, cfgChan := -1#32 } }) = some (48000#32, 2#32) ∧
      field (fun t => (t.cfg.rate, t.cfg.C)) (exec (.wrReset 0#32) { base with reg := { base.reg with
        cfgRate := 44100#32, cfgChan := 8#32 } }) = some (44100#32, 8#32) := by decide +kernel

/-- R200 to R203: the generator operations take their operands where log 4 says. -/
theorem test_rng_operands :
    field (·.rng.s) (exec .rngInit base) = some (rngInit 1#32) ∧
      field (·.rng.n) (exec .rngIntRange base) = some (intInRange 1 0#32 6#32).1 ∧
      field (·.rng.u) (exec .rngFraction base) = some (rngFrac 1).1 := ⟨rfl, rfl, rfl⟩

/-! ### Witnesses: the host bus -/

theorem witness_MotionRead : Inv base := inv_base

theorem witness_CtrlRead : (busyAt ⟨.frame, 0, 1, 0⟩).reg.ctrl = ⟨true, true, false, 0#3⟩ := rfl

theorem witness_RenderReads :
    base.reg.ctrl.busy = false ∧ ∃ t, exec .construct base = .next t :=
  ⟨rfl, _, rfl⟩

theorem witness_RootScaleAndBase :
    (∃ t, exec (.wrBufBase 0xFFFFFFFF#32) base = .next t) ∧
      (∃ t, exec (.wrRoot 0xFFFFFFF4#32) base = .next t) ∧ ∃ t, exec (.wrScale 6#32) base = .next t :=
  ⟨⟨_, rfl⟩, ⟨_, rfl⟩, ⟨_, rfl⟩⟩

theorem witness_CtrlWrite :
    (0x4#32 : Word).getLsbD 2 = true ∧ (0xFFFFFFFB#32 : Word).getLsbD 2 = false ∧
      { base with reg := { base.reg with ctrl := ⟨true, false, true, 2#3⟩ } }.reg.ctrl =
        ⟨true, false, true, 2#3⟩ := by decide

/-- The least NaN and the largest value that is none. -/
theorem witness_MotionWrite : isNaN 0x7F800001#32 = true ∧ isNaN 0x7F800000#32 = false := by decide

theorem witness_RenderWrite :
    (busyAt ⟨.refresh, 0, 0, 0⟩).reg.ctrl.busy = true ∧ base.reg.ctrl.busy = false ∧
      (1#32 : Word) ≠ 0#32 := by decide

theorem witness_ResetWrite :
    (busyAt ⟨.refresh, 0, 0, 0⟩).reg.ctrl.busy = true ∧ base.reg.ctrl.busy = false ∧
      isNaN base.reg.tempo = false ∧ isNaN base.reg.density = false ∧
      isNaN base.reg.brightness = false ∧ isNaN base.reg.motion = false := by decide

/-- One command word for each of the four outcomes, at the boundaries of the ranges. -/
theorem witness_RefusedCommands :
    (∀ cmd, { base with sched := [code cmd 0#32] }.sched.head? = some (.code (.hb16 cmd 0#32))) ∧
      (0x1000#16).extractLsb' 12 3 ≠ 0#3 ∧ (0x8057#16).extractLsb' 0 2 ≠ 0#2 ∧
      0x058 < ((0x805C#16).extractLsb' 0 12).toNat ∧ 0x058 < ((0x0FFC#16).extractLsb' 0 12).toNat ∧
      ¬ 0x058 < ((0x8058#16).extractLsb' 0 12).toNat :=
  ⟨fun _ => rfl, by decide, by decide, by decide, by decide, by decide⟩

/-! ### Witnesses: codes and the step -/

theorem witness_DecodeAndEncode :
    decode (.uop 0x2E#8) = .ok .construct ∧ decode (.hb16 0x0058#16 7#32) = .ok .rdMeter6 ∧
      decode (.hb16 0x8058#16 7#32) = .ok (.wrMeter6 7#32) ∧ encode .rdCtrl = encode .rdCtrl := by decide

theorem witness_WellFormedCodes :
    uopListed 0x01#8 = false ∧ uopListed 0x2F#8 = false ∧
      (Code.hb16 0x7000#16 0#32).wellFormed = false ∧ (Code.hb16 0x0FFC#16 0#32).wellFormed = false ∧
      (Code.hb16 0x0003#16 0#32).wellFormed = false := by decide

theorem witness_StepRuns :
    { base with sched := [code 0x8008#16 5#32] }.sched.head? = some (.code (.hb16 0x8008#16 5#32)) ∧
      decode (.hb16 0x8008#16 5#32) = .ok (.wrRoot 5#32) ∧
      decodeTableWord 48 0x58008 = some (.wrRoot 5#32) ∧
      engineNext (busyAt ⟨.reconcile, 0, 0, 0⟩) ∧ engineNext (busyAt ⟨.frame, 0, 12, 0⟩) ∧
      microOp (busyAt ⟨.frame, 0, 12, 0⟩) = some 0x20#8 ∧ decode (.uop 0x20#8) = .ok .frameWrite :=
  ⟨rfl, by decide, by decide, trivial, trivial, rfl, by decide⟩

/-- The step of `withFetchWord` is the instruction's own (R191). -/
theorem test_step_runs_the_word :
    field (fun t => (t.reg.tempo, t.sched)) (step (base.withFetchWord 48 0x430200008004)) =
      some (0x43020000#32, []) := by decide +kernel

/-- Every phase has a state of the invariant that steps to a next state. -/
theorem witness_Sequencer_and_Invariant :
    (Inv base ∧ ∃ t, step base = .next t) ∧
      (Inv (busyAt ⟨.refresh, 0, 0, 0⟩) ∧ ∃ t, step (busyAt ⟨.refresh, 0, 0, 0⟩) = .next t) ∧
      (Inv (busyAt ⟨.refresh, 0, 0, 8⟩) ∧ ∃ t, step (busyAt ⟨.refresh, 0, 0, 8⟩) = .next t) ∧
      (Inv (busyAt ⟨.reconcile, 0, 0, 0⟩) ∧ ∃ t, step (busyAt ⟨.reconcile, 0, 0, 0⟩) = .next t) ∧
      (Inv (busyAt ⟨.frame, 0, 1, 0⟩) ∧ ∃ t, step (busyAt ⟨.frame, 0, 1, 0⟩) = .next t) ∧
      (Inv (busyAt ⟨.frame, 0, 12, 0⟩) ∧ ∃ t, step (busyAt ⟨.frame, 0, 12, 0⟩) = .next t) ∧
      (Inv (busyAt ⟨.publish, 0, 0, 7⟩) ∧ ∃ t, step (busyAt ⟨.publish, 0, 0, 7⟩) = .next t) :=
  ⟨⟨inv_base, _, rfl⟩, ⟨inv_busyAt _ (by decide) (by simp [positionLegal]), _, rfl⟩,
    ⟨inv_busyAt _ (by decide) (by simp [positionLegal]), _, rfl⟩,
    ⟨inv_busyAt _ (by decide) (by simp [positionLegal]), _, rfl⟩,
    ⟨inv_busyAt _ (by decide) (by simp [positionLegal]), _, rfl⟩,
    ⟨inv_busyAt _ (by decide) (by simp [positionLegal]), _, rfl⟩,
    ⟨inv_busyAt _ (by decide) (by simp [positionLegal]), _, rfl⟩⟩

/-- The other half of SequencerFollowsTheBlockPhases: a bus command is next, in an idle and in a busy
machine. -/
theorem witness_Sequencer_command :
    ¬ engineNext { base with sched := [code 0x8038#16 1#32] } ∧
      (∃ t, step { base with sched := [code 0x8038#16 1#32] } = .next t) ∧
      ¬ engineNext { busyAt ⟨.frame, 0, 1, 0⟩ with sched := [code 0x8038#16 1#32] } ∧
      ∃ t, step { busyAt ⟨.frame, 0, 1, 0⟩ with sched := [code 0x8038#16 1#32] } = .next t :=
  ⟨fun h => h, ⟨_, rfl⟩, fun h => h, ⟨_, rfl⟩⟩

theorem witness_Phases :
    (busyAt ⟨.refresh, 0, 0, 0⟩).sched = [] ∧ (busyAt ⟨.refresh, 0, 0, 0⟩).seq.sub = 0 ∧
      (busyAt ⟨.publish, 0, 0, 0⟩).seq.sub = 0 ∧ (busyAt ⟨.frame, 0, 1, 0⟩).seq.k = 1 := ⟨rfl, rfl, rfl, rfl⟩

/-- The outcome is a next state. -/
def isNext (r : Result) : Bool :=
  match r with
  | .next _ => true
  | .fault _ => false
  | .refused _ => false

theorem exists_of_isNext (r : Result) (h : isNext r = true) : ∃ t, r = .next t := by
  cases r with
  | next t => exact ⟨t, rfl⟩
  | fault e => cases h
  | refused e => cases h

/-- A block of one frame at 0x1000 with all units disabled and HOSTV = 0. -/
def quiet (q : Seq) : State :=
  { busyAt q with reg := { base.reg with ctrl := ⟨false, true, false, 0#3⟩, bufBase := 0x400#30 } }

/-- An unmoved tempo and an unchanged scale leave RECONCILE nothing to do, whatever BPM_EPS is. -/
theorem reconcile_idle (s : State) (ht : s.sh.bpm = 0x42F00000#32) (hl : s.recon.lastBpm = 0x42F00000#32)
    (hs : s.sh.scale = s.recon.lastScale) : execReconcile s = .next s := by
  have hm : tempoMoved s = false := by
    have hz : fabs (fsub 0x42F00000#32 0x42F00000#32) = 0#32 := by decide +kernel
    unfold tempoMoved
    rw [ht, hl, hz, Bool.eq_false_iff]
    intro hc
    have h0 := fle_zero_bpmEps
    rw [fle_iff] at h0
    rw [flt_iff] at hc
    omega
  have hr : reconcileTiming s = s := by
    unfold reconcileTiming
    rw [hm]
    rfl
  unfold execReconcile reconcileScale
  rw [hr, if_neg (by simp [hs])]

theorem runSteps_next (n : Nat) (s u : State) (h : step s = .next u) :
    runSteps (n + 1) s = runSteps n u := by
  simp only [runSteps, h, andThen_next]

/-- A frame with all units disabled, at step k of a block's only frame. -/
def Silent (k : Nat) (s : State) : Prop :=
  s.sched = [] ∧ s.seq = ⟨.frame, 0, k, 0⟩ ∧ s.sh.arpEn = false ∧ s.sh.percEn = false ∧
    s.sh.padEn = false ∧ s.blk = ⟨1#32, 0x1000#32⟩ ∧ s.cfg.C = 2#32

theorem silent_step (k : Nat) (s : State) (h : Silent k s) (h1 : 1 ≤ k) (hk : k < 12) :
    ∃ t, step s = .next t ∧ Silent (k + 1) t := by
  obtain ⟨reg, cfg, ev, sh, recon, rng, tim, clk, walk, arp, pad, perc, mix, dly, band, acc, meter, seq,
    blk, refr, mem, rdata, sched⟩ := s
  obtain ⟨bpm, root, scale, den, bri, mot, seed, e1, e2, e3⟩ := sh
  obtain ⟨h2, h3, h4, h5, h6, h7, h8⟩ := h
  simp only at h2 h3 h4 h5 h6 h7 h8
  subst h2 h3 h4 h5 h6 h7
  interval_cases k <;>
    first
    | exact ⟨_, rfl, rfl, rfl, rfl, rfl, rfl, rfl, h8⟩
    | (simp only [step, fetch, fetchEngine, microOp, Bool.and_false, Bool.false_eq_true, if_false]
       exact ⟨_, rfl, rfl, rfl, rfl, rfl, rfl, rfl, h8⟩)

/-- At the reconciliation of such a block, with nothing to reconcile. -/
def Ready (s : State) : Prop :=
  s.sched = [] ∧ s.seq = ⟨.reconcile, 0, 0, 0⟩ ∧ s.sh.arpEn = false ∧ s.sh.percEn = false ∧
    s.sh.padEn = false ∧ s.blk = ⟨1#32, 0x1000#32⟩ ∧ s.cfg.C = 2#32 ∧ s.sh.bpm = 0x42F00000#32 ∧
    s.recon.lastBpm = 0x42F00000#32 ∧ s.sh.scale = s.recon.lastScale

theorem ready_step (s : State) (h : Ready s) : ∃ t, step s = .next t ∧ Silent 1 t := by
  obtain ⟨h1, h2, h3, h4, h5, h6, h7, h8, h9, h10⟩ := h
  have hf : fetch s = .run .reconcile s .toFrames := by
    unfold fetch
    rw [h1]
    dsimp only
    unfold fetchEngine
    rw [h2]
    rfl
  have hx : exec .reconcile s = .next s := reconcile_idle s h8 h9 h10
  refine ⟨finish .toFrames s, ?_, h1, ?_, h3, h4, h5, h6, h7⟩
  · simp only [step, hf, hx, andThen_next]
  · show enterFrames s.blk.N.toNat = _
    rw [h6]
    rfl

/-- A state whose engine publishes next, with no command in between. -/
def Publishing (n : Nat) (s : State) : Prop :=
  s.sched = [] ∧ s.seq.phase = .publish ∧ s.seq.sub + n = 8

theorem silent_last (s : State) (h : Silent 12 s) : ∃ t, step s = .next t ∧ Publishing 8 t := by
  obtain ⟨reg, cfg, ev, sh, recon, rng, tim, clk, walk, arp, pad, perc, mix, dly, band, acc, meter, seq,
    blk, refr, mem, rdata, sched⟩ := s
  obtain ⟨rate, C, fs, pd, a, p⟩ := cfg
  obtain ⟨h2, h3, h4, h5, h6, h7, h8⟩ := h
  simp only at h2 h3 h7 h8
  subst h2 h3 h7 h8
  exact ⟨_, rfl, rfl, rfl, rfl⟩

theorem publishing_run (n : Nat) (s : State) (h : Publishing (n + 1) s) :
    ∃ t, runSteps (n + 1) s = .next t ∧ t.reg.ctrl.busy = false := by
  induction n generalizing s with
  | zero =>
    obtain ⟨h1, h2, h3⟩ := h
    have hp : publishStep s = { publishDone s with seq := ⟨.idle, 0, 0, 0⟩ } := by
      unfold publishStep
      rw [if_neg (by omega)]
    have hs : step s = .next (publishStep s) := by simp only [step, fetch, h1, fetchEngine, h2]
    exact ⟨publishStep s, by simp only [runSteps, hs, andThen_next], by rw [hp]; rfl⟩
  | succ n ih =>
    obtain ⟨h1, h2, h3⟩ := h
    have hs : step s = .next (publishStep s) := by simp only [step, fetch, h1, fetchEngine, h2]
    have hp : publishStep s =
        { publishMeter s.seq.sub s with seq := { s.seq with sub := s.seq.sub + 1 } } := by
      unfold publishStep
      rw [if_pos (by omega)]
    rw [runSteps_next (n + 1) s _ hs, hp]
    exact ih _ ⟨h1, h2, by show s.seq.sub + 1 + (n + 1) = 8; omega⟩

theorem silent_run (n k : Nat) (s : State) (h : Silent k s) (h1 : 1 ≤ k) (hk : k + n = 12) :
    ∃ t, runSteps (n + 9) s = .next t ∧ t.reg.ctrl.busy = false := by
  induction n generalizing k s with
  | zero =>
    obtain rfl : k = 12 := by omega
    obtain ⟨t, ht, hp⟩ := silent_last s h
    rw [runSteps_next 8 s t ht]
    exact publishing_run 7 t hp
  | succ n ih =>
    obtain ⟨t, ht, hs⟩ := silent_step k s h h1 (by omega)
    rw [show n + 1 + 9 = (n + 9) + 1 by omega, runSteps_next (n + 9) s t ht]
    exact ih (k + 1) t hs (by omega) (by omega)

theorem ready_run (s : State) (h : Ready s) : ∃ t, runSteps 21 s = .next t ∧ t.reg.ctrl.busy = false := by
  obtain ⟨t, ht, hs⟩ := ready_step s h
  rw [runSteps_next 20 s t ht]
  exact silent_run 11 1 t hs (by omega) rfl

theorem quiet_run : ∃ t, runSteps 22 (quiet ⟨.refresh, 0, 0, 0⟩) = .next t ∧ t.reg.ctrl.busy = false := by
  rw [runSteps_next 21 _ { quiet ⟨.reconcile, 0, 0, 0⟩ with refr := base.refr } rfl]
  exact ready_run _ ⟨rfl, rfl, rfl, rfl, rfl, rfl, rfl, rfl, rfl, rfl⟩

theorem inv_quiet : Inv (quiet ⟨.refresh, 0, 0, 0⟩) :=
  { inv_busyAt ⟨.refresh, 0, 0, 0⟩ (by decide) (by simp [positionLegal]) with
    causeClear := fun _ => rfl, causeLegal := Nat.zero_le 5, busy := ⟨fun _ => by decide, fun _ => rfl⟩ }

/-- A refresh with HOSTV 1 at its k-th register read, with the values read so far. -/
def reading (k : Nat) (f : RefreshRegs) : State := { busyAt ⟨.refresh, 0, 0, k⟩ with refr := f }

/-- The values that a refresh of `base`'s registers reads. -/
def baseParams : RefreshRegs :=
  ⟨true, 0x42F00000#32, 60#32, 0#2, 0x3EB33333#32, 0x3F000000#32, 0#32, 1#32, 0#3⟩

/-- The nine register reads of a refresh with HOSTV 1, one engine step each. -/
theorem refresh_run (n : Nat) :
    runSteps (n + 9) (busyAt ⟨.refresh, 0, 0, 0⟩) =
      runSteps n { busyAt ⟨.reconcile, 0, 0, 0⟩ with refr := baseParams, sh := shadowOf baseParams } := by
  have h0 : step (busyAt ⟨.refresh, 0, 0, 0⟩) =
      .next (reading 1 ⟨true, 0#32, 0#32, 0#2, 0#32, 0#32, 0#32, 0#32, 0#3⟩) := rfl
  have h1 : ∀ r s d bb m sd e, step (reading 1 ⟨true, 0#32, r, s, d, bb, m, sd, e⟩) =
      .next (reading 2 ⟨true, 0x42F00000#32, r, s, d, bb, m, sd, e⟩) := fun _ _ _ _ _ _ _ => rfl
  have h2 : ∀ t s d bb m sd e, step (reading 2 ⟨true, t, 0#32, s, d, bb, m, sd, e⟩) =
      .next (reading 3 ⟨true, t, 60#32, s, d, bb, m, sd, e⟩) := fun _ _ _ _ _ _ _ => rfl
  have h3 : ∀ t r d bb m sd e, step (reading 3 ⟨true, t, r, 0#2, d, bb, m, sd, e⟩) =
      .next (reading 4 ⟨true, t, r, 0#2, d, bb, m, sd, e⟩) := fun _ _ _ _ _ _ _ => rfl
  have h4 : ∀ t r s bb m sd e, step (reading 4 ⟨true, t, r, s, 0#32, bb, m, sd, e⟩) =
      .next (reading 5 ⟨true, t, r, s, 0x3EB33333#32, bb, m, sd, e⟩) := fun _ _ _ _ _ _ _ => rfl
  have h5 : ∀ t r s d m sd e, step (reading 5 ⟨true, t, r, s, d, 0#32, m, sd, e⟩) =
      .next (reading 6 ⟨true, t, r, s, d, 0x3F000000#32, m, sd, e⟩) := fun _ _ _ _ _ _ _ => rfl
  have h6 : ∀ t r s d bb sd e, step (reading 6 ⟨true, t, r, s, d, bb, 0#32, sd, e⟩) =
      .next (reading 7 ⟨true, t, r, s, d, bb, 0#32, sd, e⟩) := fun _ _ _ _ _ _ _ => rfl
  have h7 : ∀ t r s d bb m e, step (reading 7 ⟨true, t, r, s, d, bb, m, 0#32, e⟩) =
      .next (reading 8 ⟨true, t, r, s, d, bb, m, 1#32, e⟩) := fun _ _ _ _ _ _ _ => rfl
  have h8 : step (reading 8 baseParams) =
      .next { busyAt ⟨.reconcile, 0, 0, 0⟩ with refr := baseParams, sh := shadowOf baseParams } := rfl
  rw [runSteps_next (n + 8) _ _ h0, runSteps_next (n + 7) _ _ (h1 _ _ _ _ _ _ _),
    runSteps_next (n + 6) _ _ (h2 _ _ _ _ _ _ _), runSteps_next (n + 5) _ _ (h3 _ _ _ _ _ _ _),
    runSteps_next (n + 4) _ _ (h4 _ _ _ _ _ _ _), runSteps_next (n + 3) _ _ (h5 _ _ _ _ _ _ _),
    runSteps_next (n + 2) _ _ (h6 _ _ _ _ _ _ _), runSteps_next (n + 1) _ _ (h7 _ _ _ _ _ _ _)]
  exact runSteps_next n _ _ h8

/-- One frame with HOSTV 0, in 22 engine steps, and with HOSTV 1, in 30. -/
theorem witness_BlockEnds :
    (Inv (quiet ⟨.refresh, 0, 0, 0⟩) ∧ (quiet ⟨.refresh, 0, 0, 0⟩).sched = [] ∧
      blockSteps false 1 = 22 ∧ ∃ t, runSteps 22 (quiet ⟨.refresh, 0, 0, 0⟩) = .next t) ∧
    Inv (busyAt ⟨.refresh, 0, 0, 0⟩) ∧ (busyAt ⟨.refresh, 0, 0, 0⟩).sched = [] ∧
      (busyAt ⟨.refresh, 0, 0, 0⟩).reg.ctrl.hostv = true ∧ blockSteps true 1 = 30 ∧
      ∃ t, runSteps 30 (busyAt ⟨.refresh, 0, 0, 0⟩) = .next t := by
  refine ⟨⟨inv_quiet, rfl, rfl, quiet_run.imp fun _ h => h.1⟩,
    inv_busyAt _ (by decide) (by simp [positionLegal]), rfl, rfl, rfl, ?_⟩
  obtain ⟨t, ht, hr⟩ := ready_run { busyAt ⟨.reconcile, 0, 0, 0⟩ with
    refr := baseParams, sh := shadowOf baseParams }
    ⟨rfl, rfl, rfl, rfl, rfl, rfl, rfl, rfl, rfl, rfl⟩
  exact ⟨t, (refresh_run 21).trans ht⟩

/-- Each stop happens somewhere: a NaN read by the refresh, written to MOTION, and found by RESET; a frame
above 2^32. -/
theorem witness_Stops :
    step { busyAt ⟨.refresh, 0, 0, 8⟩ with refr := { base.refr with t := 0x7FC00000#32 } } =
        .fault (.paramNaN .tempo) ∧
      step { base with sched := [code 0x8018#16 0x7FC00000#32] } = .fault (.paramNaN .motion) ∧
      step { base with
        reg := { base.reg with density := 0x7FC00000#32 }, sched := [code 0x803C#16 0#32] } =
        .fault (.paramNaN .density) ∧
      step { busyAt ⟨.frame, 1, 12, 0⟩ with blk := ⟨2#32, 0xFFFFFFF8#32⟩ } =
        .fault (.bufferWrap 0x100000000) := ⟨rfl, rfl, rfl, rfl⟩

/-! ### Witnesses: generator, walker, clock -/

theorem witness_GeneratorWriters :
    (∃ t, exec .clockTick base = .next t) ∧ ¬ constructs .clockTick ∧
      Instr.clockTick ∉ [Instr.rngInit, .rngFraction, .rngIntRange, .scaleRebuild, .walkerAdvance,
        .paramRefresh, .reconcile, .arpTrigger, .percGate, .percStep] :=
  ⟨⟨_, rfl⟩, (by intro h; rcases h with h | ⟨_, h⟩ <;> cases h), by decide⟩

theorem witness_GeneratorRange :
    base.rng.lo.toInt ≤ base.rng.hi.toInt ∧
      { base with rng := { base.rng with lo := 6#32 } }.rng.lo = base.rng.hi := by decide

theorem witness_Walker :
    { base with walk := ⟨[], 0, 3⟩ }.walk.len = 0 ∧ 0 < base.walk.len ∧
      (∃ t, exec .scaleRebuild base = .next t) ∧ ∃ t, exec .walkerAdvance base = .next t :=
  ⟨rfl, by decide, ⟨_, rfl⟩, ⟨_, rfl⟩⟩

theorem witness_Timing :
    base.cfg.fs = fofInt 48000 ∧ base.sh.bpm = fofInt 120 ∧
      { base with sh := { base.sh with bpm := 0x7F800000#32 } }.sh.bpm = 0x7F800000#32 ∧
      { base with sh := { base.sh with bpm := 0xFF800000#32 } }.sh.bpm = 0xFF800000#32 := by
  decide +kernel

/-- The periods of 120 beats per minute, and the largest period. -/
theorem witness_ClockFires :
    base.tim.per16 = fofInt 6000 ∧ base.tim.per8 = fofInt 12000 ∧ base.tim.perPad = fofInt 48000 ∧
      base.clk = ⟨0#32, 0#32, 0#32⟩ ∧
      { base with tim := { base.tim with per16 := 0x4B800000#32 } }.tim.per16 = fofInt (2 ^ 24) := by
  decide +kernel

/-! ### Witnesses: voices. Nothing is known of EXP2 (D3, log 7), so a finite frequency and one that is
not are each shown under a value of EXP2(0) that allows it. -/

/-- Note 69 has the argument 0.0 and, where EXP2(0) is 1.0, the frequency 440.0 (V-VOICE-4). -/
theorem note_69_is_440 (h : Config.exp2 0#32 = 0x3F800000#32) : noteFrequency 69 = 0x43DC0000#32 := by
  have he : fdiv (fofInt (69 - 69)) (fofInt 12) = 0#32 := by decide +kernel
  unfold noteFrequency
  rw [he, h]
  decide +kernel

theorem note_69_not_finite (h : Config.exp2 0#32 = 0x7F800000#32) : isFinite (noteFrequency 69) = false := by
  have he : fdiv (fofInt (69 - 69)) (fofInt 12) = 0#32 := by decide +kernel
  unfold noteFrequency
  rw [he, h]
  decide +kernel

/-- ROOT 81 with the first offset: the pad plays note 69. -/
def on69 : State := { base with sh := { base.sh with root := 81#32 }, walk := ⟨[0], 1, 0⟩ }

theorem witness_NoteFreq_finite (h : Config.exp2 0#32 = 0x3F800000#32) :
    noteNumber on69 .pad = 69 ∧ isFinite (noteFrequency 69) = true := by
  rw [note_69_is_440 h]
  decide

theorem witness_NoteFreq_not_finite (h : Config.exp2 0#32 = 0x7F800000#32) :
    noteNumber on69 .pad = 69 ∧ isFinite (noteFrequency 69) = false :=
  ⟨by decide, note_69_not_finite h⟩

/-- The fault of NOTE_FREQ in a frame, for StopsComeOnlyFromTheNamedConditions. -/
theorem witness_Stops_freq (h : Config.exp2 0#32 = 0x7F800000#32) :
    step { busyAt ⟨.frame, 0, 4, 0⟩ with
        ev := ⟨false, false, true, false⟩
        sh := { base.sh with root := 81#32, padEn := true }
        walk := ⟨[0], 1, 0⟩ } = .fault (.freqNotFinite .pad 69) := by
  show andThen (andThen (noteFreq .pad { busyAt ⟨.frame, 0, 4, 0⟩ with
        ev := ⟨false, false, true, false⟩
        sh := { base.sh with root := 81#32, padEn := true }
        walk := ⟨[0], 1, 0⟩ }) _) _ = _
  have hf := note_69_not_finite h
  unfold noteFreq
  simp only [show noteNumber { busyAt ⟨.frame, 0, 4, 0⟩ with
        ev := ⟨false, false, true, false⟩
        sh := { base.sh with root := 81#32, padEn := true }
        walk := ⟨[0], 1, 0⟩ } .pad = 69 by decide, hf]
  rfl

theorem witness_Envelope :
    inUnit base.arp.level = true ∧ inUnit base.cfg.arp.sustain = true ∧
      fle (fofInt 1) base.cfg.arp.releaseS = true ∧ inUnit base.sh.brightness = true ∧
      inUnit base.pad.level = true ∧ inUnit base.cfg.pad.sustain = true ∧
      fle (fofInt 1) base.cfg.pad.releaseS = true := by decide +kernel

/-- The arpeggio trigger on note 69, whatever the walker draws in a table of one offset. -/
theorem witness_Triggers_arp (h : Config.exp2 0#32 = 0x3F800000#32) :
    exec .walkerAdvance { on69 with sh := { base.sh with root := 69#32 } } =
        .next (walkerAdvance { on69 with sh := { base.sh with root := 69#32 } }) ∧
      isFinite (noteFrequency (noteNumber
        (walkerAdvance { on69 with sh := { base.sh with root := 69#32 } }) .arp)) = true := by
  refine ⟨rfl, ?_⟩
  have hn : noteNumber (walkerAdvance { on69 with sh := { base.sh with root := 69#32 } }) .arp = 69 := by
    have hi : ∀ d : Int, walkerStep ⟨[0], 1, 0⟩ d = 0 := by
      intro d
      unfold walkerStep
      simp only
      omega
    show (69 : Int) + ([0] : List Int).getD (walkerStep ⟨[0], 1, 0⟩ _) 0 + 0 = 69
    rw [hi]
    rfl
  rw [hn, note_69_is_440 h]
  decide

theorem witness_Triggers_pad (h : Config.exp2 0#32 = 0x3F800000#32) :
    isFinite (noteFrequency (noteNumber on69 .pad)) = true :=
  (witness_NoteFreq_finite h).2

/-! ### Witnesses: percussion and renderer -/

/-- An envelope of 0 is below every PERC_EPS, and PERC_EPS itself is not. -/
theorem witness_PercStep :
    flt base.perc.env percEps = true ∧
      flt { base with perc := ⟨percEps, 0#32, 0#32⟩ }.perc.env percEps = false :=
  ⟨flt_zero_percEps, flt_self _⟩

theorem witness_PercEnvelope :
    inUnit { base with perc := ⟨0x3F800000#32, 0#32, 0#32⟩ }.perc.env = true ∧
      inUnit base.cfg.percDecay = true := by decide +kernel

/-- The last frame that fits ends at byte 0xFFFFFFFF, and the next does not fit. -/
theorem witness_FrameWrite :
    0 < base.cfg.C.toInt ∧ (0xFFFFFFF8 + 4 * (0 * 2) + 4 * min 2 2 - 1 : Nat) ≤ 2 ^ 32 - 1 ∧
      (2 ^ 32 - 1 : Nat) < 0xFFFFFFF8 + 4 * (1 * 2) + 4 * min 2 2 - 1 := by decide

theorem witness_MemoryWriters :
    Instr.mixDelay ≠ .frameWrite ∧ ∃ t, exec .mixDelay base = .next t := ⟨by decide, _, rfl⟩

/-- HOSTV 0, HOSTV 1 with no NaN, and HOSTV 1 with a NaN. -/
theorem witness_ParamRefresh :
    (quiet ⟨.refresh, 0, 0, 0⟩).reg.ctrl.hostv = false ∧ base.reg.ctrl.hostv = true ∧
      isNaN base.reg.tempo = false ∧ isNaN base.reg.density = false ∧
      isNaN base.reg.brightness = false ∧ isNaN base.reg.motion = false ∧
      isNaN { base.reg with motion := 0x7F800001#32 }.motion = true := by decide

theorem witness_Settle :
    (∃ t, exec .paramRefresh base = .next t) ∧ ∃ t, exec .reconcile base = .next t :=
  ⟨⟨_, rfl⟩, ⟨_, rfl⟩⟩

/-- A state whose seven block values lie above their meters. -/
def loud : State :=
  { busyAt ⟨.publish, 0, 0, 0⟩ with
    acc := ⟨fofInt 2, fofInt 1, fofInt 1, fofInt 1⟩
    arp := ⟨0#32, 0#32, 0#32, 0x3F000000#32, 0#32⟩
    pad := ⟨0#32, 0#32, 0#32, 0x3F000000#32, 0#32⟩
    perc := ⟨0x3F000000#32, 0#32, 0#32⟩ }

/-- Every meter below its block value, and every meter equal to it. -/
theorem witness_SmoothedMeter :
    (∀ k < 7, isFinite (blockValue k loud) = true ∧ fle 0#32 (loud.meter.get k) = true ∧
      flt (loud.meter.get k) (blockValue k loud) = true) ∧
    ∀ k < 7, isFinite (blockValue k (busyAt ⟨.publish, 0, 0, 0⟩)) = true ∧
      fle ((busyAt ⟨.publish, 0, 0, 0⟩).meter.get k) (blockValue k (busyAt ⟨.publish, 0, 0, 0⟩)) = true := by
  decide +kernel

/-! ### Witnesses: construction and the whole machine -/

theorem witness_PowerOnReset : { base with reg := State.reset.reg }.reg = State.reset.reg := rfl

/-- An instruction that is in no group's list of writers. -/
theorem witness_StateGroups :
    (∃ t, exec .rdCtrl base = .next t) ∧ ¬ constructs .rdCtrl ∧ ∀ d, Instr.rdCtrl ≠ .wrRender d :=
  ⟨⟨_, rfl⟩, (by intro h; rcases h with h | ⟨_, h⟩ <;> cases h), fun _ h => by cases h⟩

theorem witness_PlainCommands :
    plainCommand .rdCtrl ∧ plainCommand (.wrMeter6 0#32) ∧ ∃ t, exec (.wrCtrl 5#32) base = .next t :=
  ⟨⟨by decide, by decide⟩, ⟨by decide, by decide⟩, _, rfl⟩

theorem witness_ParametersDoNotReach :
    engineNext (busyAt ⟨.frame, 0, 2, 0⟩) ∧ (busyAt ⟨.frame, 0, 2, 0⟩).seq.phase = .frame ∧
      engineNext (busyAt ⟨.reconcile, 0, 0, 0⟩) ∧
      (busyAt ⟨.reconcile, 0, 0, 0⟩).seq.phase = .reconcile := ⟨trivial, rfl, trivial, rfl⟩

/-- Frame 2 of a block at 0x1000 and frame 0 of one at 0x1010 have one address. -/
theorem witness_FramePosition :
    (0x1010#32 : Word).toNat + 4 * (0 * 2) = (0x1000#32 : Word).toNat + 4 * (2 * 2) := by decide

theorem witness_DisabledUnits :
    (∃ t, frameProgram (busyAt ⟨.frame, 0, 1, 0⟩) = .next t) ∧ base.sh.arpEn = false ∧
      base.sh.padEn = false ∧ base.sh.percEn = false :=
  ⟨exists_of_isNext _ (by decide +kernel), rfl, rfl, rfl⟩

/-! ### Host programs -/

/-- The idle machine that `quiet` starts from. -/
def quietIdle : State :=
  { quiet ⟨.idle, 0, 0, 0⟩ with
    reg := { base.reg with ctrl := ⟨false, false, false, 0#3⟩, bufBase := 0x400#30 }
    blk := ⟨0#32, 0#32⟩ }

theorem quietIdle_starts : exec (.wrRender 1#32) quietIdle = .next (quiet ⟨.refresh, 0, 0, 0⟩) := rfl

/-- R96: while BUSY reads 1 the program polls, and RENDER is not read. -/
theorem test_renderWait_polls :
    runHost [[], [], []] (renderWait 1#32) quietIdle =
      .waiting [.pollIdle, .command (encode .rdRender)]
        { quiet ⟨.refresh, 0, 0, 0⟩ with rdata := 0x00000002#32 } := by
  unfold renderWait
  rw [runHost_command [] _ (.wrRender 1#32) _ _ _ _ rfl quietIdle_starts rfl,
    runHost_pollIdle_busy [] _ _ _ _ rfl rfl, runHost_pollIdle_busy [] _ _ _ _ rfl rfl, runHost_waiting]
  rfl

theorem inv_quietIdle : Inv quietIdle :=
  { inv_base with
    causeClear := fun _ => rfl, causeLegal := Nat.zero_le 5, busy := by decide, position := ⟨rfl, rfl, rfl⟩ }

/-- A block of one frame, polled once in its middle and once after its end, returns. -/
theorem witness_RenderWait :
    Inv quietIdle ∧ quietIdle.reg.ctrl.busy = false ∧ quietIdle.sched = [] ∧ (1#32 : Word) ≠ 0#32 ∧
    (∃ u, runEvents (.code (encode (.wrRender 1#32)) :: List.replicate 22 .engine) quietIdle = .next u) ∧
    ∃ t, runHost ([0, 1, 21, 0].map fun k => List.replicate k .engine) (renderWait 1#32) quietIdle =
      .done (.next t) := by
  obtain ⟨u, hu, -⟩ := quiet_run
  refine ⟨inv_quietIdle, rfl, rfl, by decide, ⟨u, ?_⟩, ?_⟩
  · rw [show ∀ l, Event.code (encode (.wrRender 1#32)) :: l = [.code (encode (.wrRender 1#32))] ++ l from
        fun _ => rfl, runEvents_append, runEvents_code _ (.wrRender 1#32) _ rfl, quietIdle_starts, andThen_next]
    exact (runEvents_engine 22 (quiet ⟨.refresh, 0, 0, 0⟩) rfl).trans hu
  · have h1 : runEvents (List.replicate 1 .engine) (quiet ⟨.refresh, 0, 0, 0⟩) =
        .next { quiet ⟨.reconcile, 0, 0, 0⟩ with refr := base.refr } := rfl
    obtain ⟨v, hv, hb⟩ := ready_run { quiet ⟨.reconcile, 0, 0, 0⟩ with refr := base.refr, rdata := 2#32 }
      ⟨rfl, rfl, rfl, rfl, rfl, rfl, rfl, rfl, rfl, rfl⟩
    have h2 := (runEvents_engine 21 _ rfl).trans hv
    have h3 : exec .rdRender (busReply (ctrlWord v.reg.ctrl) v) =
        .next (busReply v.reg.render (busReply (ctrlWord v.reg.ctrl) v)) := rfl
    refine ⟨busReply v.reg.render (busReply (ctrlWord v.reg.ctrl) v), ?_⟩
    simp only [List.map_cons, List.map_nil]
    unfold renderWait
    rw [runHost_command _ _ (.wrRender 1#32) _ _ _ _ rfl quietIdle_starts rfl,
      runHost_pollIdle_busy _ _ _ _ _ h1 rfl]
    refine (runHost_pollIdle_idle _ _ _ _ v h2 hb).trans ?_
    rw [runHost_command _ _ .rdRender _ _ _ _ rfl h3 rfl, runHost_done]

end Sys2Proof.Tests
end

section
/-! Binary32 magnitudes as numbers of units: the order of the patterns, and two bounds on one rounding. -/

namespace Sys2Proof.Machine

/-! ### Magnitude patterns as numbers of units -/

/-- The number of units of 2^-149 that a magnitude pattern stands for. -/
def magUnits (p : Nat) : Nat :=
  if p / 2 ^ 23 = 0 then p % 2 ^ 23 else (p % 2 ^ 23 + 2 ^ 23) * 2 ^ (p / 2 ^ 23 - 1)

theorem units_eq_magUnits (x : F32) : units x = magUnits (fmag x) := rfl

/-- In the binade of exponent k the pattern of m spacings stands for m · 2^k units; m = 2^24 is the
first pattern of the next binade. -/
theorem magUnits_binade (k m : Nat) (hm : m ≤ 2 ^ 24) (hk : k = 0 ∨ 2 ^ 23 ≤ m) :
    magUnits (k * 2 ^ 23 + m) = m * 2 ^ k := by
  unfold magUnits
  rcases Nat.lt_or_ge m (2 ^ 23) with hlow | hhigh
  · obtain rfl : k = 0 := by omega
    rw [if_pos (by omega), show (0 * 2 ^ 23 + m) % 2 ^ 23 = m by omega, pow_zero, mul_one]
  · rcases Nat.lt_or_ge m (2 ^ 24) with hlt | hge
    · rw [if_neg (by omega), show (k * 2 ^ 23 + m) / 2 ^ 23 - 1 = k by omega,
        show (k * 2 ^ 23 + m) % 2 ^ 23 + 2 ^ 23 = m by omega]
    · obtain rfl : m = 2 ^ 24 := by omega
      rw [if_neg (by omega), show (k * 2 ^ 23 + 2 ^ 24) / 2 ^ 23 - 1 = k + 1 by omega,
        show (k * 2 ^ 23 + 2 ^ 24) % 2 ^ 23 + 2 ^ 23 = 2 ^ 23 by omega]
      ring

/-- A larger magnitude pattern stands for more units. -/
theorem magUnits_strictMono : StrictMono magUnits := by
  refine strictMono_nat_of_lt_succ fun p => ?_
  have hp : ∀ k m, m < 2 ^ 24 → (k = 0 ∨ 2 ^ 23 ≤ m) → p = k * 2 ^ 23 + m →
      magUnits p < magUnits (p + 1) := by
    rintro k m hm hk rfl
    rw [add_assoc, magUnits_binade k m hm.le hk, magUnits_binade k (m + 1) hm (by omega)]
    exact Nat.mul_lt_mul_of_pos_right (Nat.lt_succ_self m) (Nat.two_pow_pos k)
  rcases Nat.lt_or_ge p (2 ^ 23) with hlow | hhigh
  · exact hp 0 p (by omega) (.inl rfl) (by omega)
  · exact hp (p / 2 ^ 23 - 1) (p % 2 ^ 23 + 2 ^ 23) (by omega) (.inr (by omega)) (by omega)

/-! ### One rounding -/

/-- The exponent of the binade into which a quotient of q units falls. -/
def binadeOf (q : Nat) : Nat := if q < 2 ^ 24 then 0 else q.log2 - 23

theorem binadeOf_bounds (q : Nat) :
    q / 2 ^ binadeOf q < 2 ^ 24 ∧ (binadeOf q = 0 ∨ 2 ^ 23 ≤ q / 2 ^ binadeOf q) := by
  unfold binadeOf
  split
  · simpa
  · rename_i hq
    have hq0 : q ≠ 0 := by omega
    have hlog : 24 ≤ q.log2 := (Nat.le_log2 hq0).2 (by omega)
    have hlt : q < 2 ^ (q.log2 + 1) := Nat.lt_log2_self
    have hle : 2 ^ q.log2 ≤ q := Nat.log2_self_le hq0
    refine ⟨?_, .inr ?_⟩
    · rw [Nat.div_lt_iff_lt_mul (Nat.two_pow_pos _), ← pow_add]
      rwa [show 24 + (q.log2 - 23) = q.log2 + 1 by omega]
    · rw [Nat.le_div_iff_mul_le (Nat.two_pow_pos _), ← pow_add]
      rwa [show 23 + (q.log2 - 23) = q.log2 by omega]

/-- A rounded fraction is m or m + 1 spacings of its binade, m being the whole spacings in it; it is m + 1
only if the rest is at least half a spacing; above the largest finite value it is the pattern of ∞. -/
theorem roundUnits_cases (num den : Nat) :
    ∃ k m r, num = den * 2 ^ k * m + r ∧ m < 2 ^ 24 ∧ (k = 0 ∨ 2 ^ 23 ≤ m) ∧
      (roundUnits num den = min (k * 2 ^ 23 + m) infMag ∨
        (den * 2 ^ k ≤ 2 * r ∧ roundUnits num den = min (k * 2 ^ 23 + (m + 1)) infMag)) := by
  obtain ⟨hlt, hk⟩ := binadeOf_bounds (num / den)
  rw [Nat.div_div_eq_div_mul] at hlt hk
  refine ⟨binadeOf (num / den), num / (den * 2 ^ binadeOf (num / den)),
    num % (den * 2 ^ binadeOf (num / den)), (Nat.div_add_mod _ _).symm, hlt, hk, ?_⟩
  unfold roundUnits
  dsimp only
  rw [← binadeOf]
  split
  · rename_i hup
    refine .inr ⟨?_, rfl⟩
    simp only [Bool.or_eq_true, decide_eq_true_eq, Bool.and_eq_true, beq_iff_eq] at hup
    omega
  · exact .inl rfl

/-- Rounding goes no higher than a representable value that bounds the fraction. -/
theorem roundUnits_le (num den p : Nat) (hden : 0 < den) (h : num ≤ magUnits p * den) :
    roundUnits num den ≤ p := by
  obtain ⟨k, m, r, hnum, hm, hk, hround | ⟨hr, hround⟩⟩ := roundUnits_cases num den
  all_goals
    have hd : 0 < den * 2 ^ k := Nat.mul_pos hden (Nat.two_pow_pos k)
    rw [hround]
    refine (min_le_left _ _).trans (le_of_not_gt fun hp => ?_)
  · have hlt := magUnits_strictMono hp
    rw [magUnits_binade k m hm.le hk] at hlt
    nlinarith
  · have hle := magUnits_strictMono.monotone (Nat.le_of_lt_succ hp : p ≤ k * 2 ^ 23 + m)
    rw [magUnits_binade k m hm.le hk] at hle
    nlinarith

/-- Rounding at most doubles a fraction. -/
theorem magUnits_roundUnits_le (num den : Nat) :
    magUnits (roundUnits num den) * den ≤ 2 * num := by
  obtain ⟨k, m, r, hnum, hm, hk, hround | ⟨hr, hround⟩⟩ := roundUnits_cases num den
  all_goals
    rw [hround]
    refine (Nat.mul_le_mul_right den (magUnits_strictMono.monotone (min_le_left _ _))).trans ?_
  · rw [magUnits_binade k m hm.le hk]
    nlinarith
  · rw [magUnits_binade k (m + 1) hm (by omega)]
    nlinarith

end Sys2Proof.Machine

end

section
/-! Binary32 operations on finite values, where the exact result has magnitude at most 1. -/

namespace Sys2Proof.Machine

/-! ### Values of finite patterns -/

/-- The value of a finite pattern. -/
def fval (x : F32) : ℚ := (unitsInt x : ℚ) / 2 ^ 149

theorem fmag_packF32 (neg : Bool) (p : Nat) (h : p ≤ infMag) : fmag (packF32 neg p) = p := by
  have : infMag = 0x7F800000 := rfl
  cases neg <;> simp only [fmag, packF32, BitVec.toNat_ofNat] <;> simp <;> omega

theorem fsign_packF32 (neg : Bool) (p : Nat) (h : p ≤ infMag) : fsign (packF32 neg p) = neg := by
  have : infMag = 0x7F800000 := rfl
  cases neg <;> simp [fsign, packF32, BitVec.msb_eq_decide] <;> omega

theorem fmag_fneg (x : F32) : fmag (fneg x) = fmag x := by
  have h : (fneg x).extractLsb' 0 31 = x.extractLsb' 0 31 := by
    unfold fneg
    ext i hi
    simp
    interval_cases i <;> simp
  simpa [fmag, BitVec.extractLsb'_toNat] using congrArg BitVec.toNat h

theorem fsign_fneg (x : F32) : fsign (fneg x) = !fsign x := by
  simp only [fsign, fneg, BitVec.msb_xor, show (0x80000000#32 : F32).msb = true from rfl, Bool.xor_true]

theorem isNaN_eq_false_iff (x : F32) : isNaN x = false ↔ fmag x ≤ 0x7F800000 :=
  decide_eq_false_iff_not.trans not_lt

theorem isFinite_iff (x : F32) : isFinite x = true ↔ fmag x < 0x7F800000 :=
  decide_eq_true_iff

theorem isNaN_of_isFinite {x : F32} (h : isFinite x = true) : isNaN x = false :=
  (isNaN_eq_false_iff x).2 ((isFinite_iff x).1 h).le

theorem isInf_of_isFinite {x : F32} (h : isFinite x = true) : isInf x = false :=
  beq_eq_false_iff_ne.2 ((isFinite_iff x).1 h).ne

theorem isFinite_fneg (x : F32) : isFinite (fneg x) = isFinite x := by
  simp only [isFinite, fmag_fneg]

theorem unitsInt_fneg (x : F32) : unitsInt (fneg x) = -unitsInt x := by
  simp only [unitsInt, fsign_fneg, units_eq_magUnits, fmag_fneg]
  cases fsign x <;> simp

theorem fval_fneg (x : F32) : fval (fneg x) = -fval x := by
  simp [fval, unitsInt_fneg, neg_div]

theorem magUnits_one : magUnits 0x3F800000 = 2 ^ 149 := by decide

theorem fval_one : fval (fofInt 1) = 1 := by
  have h : unitsInt (fofInt 1) = 2 ^ 149 := by rw [fofInt_one]; decide
  rw [fval, h]
  norm_num

/-- The interval of R57 as a bound on values; −0.0 has the value 0. -/
theorem inUnit_iff (x : F32) :
    inUnit x = true ↔ isFinite x = true ∧ 0 ≤ fval x ∧ fval x ≤ 1 := by
  have hz : isNaN 0#32 = false ∧ fkey 0#32 = 0 := by decide
  have ho : isNaN (fofInt 1) = false ∧ fkey (fofInt 1) = 0x3F800000 := by rw [fofInt_one]; decide
  have hone : magUnits (fmag x) ≤ 2 ^ 149 ↔ fmag x ≤ 0x3F800000 := by
    rw [← magUnits_one, magUnits_strictMono.le_iff_le]
  have hzero : magUnits (fmag x) = 0 ↔ fmag x = 0 := magUnits_strictMono.injective.eq_iff' rfl
  have hval : (0 ≤ fval x ∧ fval x ≤ 1) ↔ (0 ≤ unitsInt x ∧ unitsInt x ≤ 2 ^ 149) := by
    unfold fval
    rw [le_div_iff₀ (by positivity), div_le_one (by positivity), zero_mul]
    norm_cast
  simp only [inUnit, Bool.and_eq_true, fle_iff, hz, ho, hval]
  simp only [isNaN_eq_false_iff, isFinite_iff, fkey, unitsInt, units_eq_magUnits]
  cases fsign x <;> simp <;> omega

/-- A pattern is a rounding of q, of magnitude at most 1: it has q's sign and at most twice its magnitude,
which is all that the interval of R57 needs of the rounding error. -/
structure RoundsWithinOne (z : F32) (q : ℚ) : Prop where
  finite : isFinite z = true
  nonneg : 0 ≤ q → 0 ≤ fval z
  nonpos : q ≤ 0 → fval z ≤ 0
  le_double : |fval z| ≤ 2 * |q|
  le_one : |fval z| ≤ 1

theorem fval_packF32 (neg : Bool) (p : Nat) (h : p ≤ infMag) :
    fval (packF32 neg p) = (if neg then -1 else 1) * (magUnits p / 2 ^ 149) := by
  simp only [fval, unitsInt, fsign_packF32 neg p h, units_eq_magUnits, fmag_packF32 neg p h]
  cases neg <;> simp [neg_div]

/-- One narrowing of a fraction of magnitude at most 1, with its sign. -/
theorem roundsWithinOne_packF32 (neg : Bool) (num den : Nat) (hden : 0 < den)
    (h : num ≤ 2 ^ 149 * den) :
    RoundsWithinOne (packF32 neg (roundUnits num den))
      ((if neg then -1 else 1) * (num / (den * 2 ^ 149))) := by
  have hp : roundUnits num den ≤ 0x3F800000 := roundUnits_le num den _ hden (by rwa [magUnits_one])
  have hinf : roundUnits num den ≤ infMag := hp.trans (by decide)
  have hone : (magUnits (roundUnits num den) : ℚ) ≤ 2 ^ 149 := by
    exact_mod_cast magUnits_one ▸ magUnits_strictMono.monotone hp
  have hdouble : (magUnits (roundUnits num den) : ℚ) * den ≤ 2 * num := by
    exact_mod_cast magUnits_roundUnits_le num den
  have hden' : (0 : ℚ) < den := by exact_mod_cast hden
  have hval := fval_packF32 neg _ hinf
  set v : ℚ := magUnits (roundUnits num den) / 2 ^ 149 with hv
  set q : ℚ := num / (den * 2 ^ 149) with hq
  have hv0 : 0 ≤ v := by positivity
  have hq0 : 0 ≤ q := by positivity
  have hvone : v ≤ 1 := by rwa [hv, div_le_one (by positivity)]
  have hvq : v ≤ 2 * q := by
    rw [hv, hq, div_le_iff₀ (by positivity)]
    field_simp
    linarith
  refine ⟨?_, ?_, ?_, ?_, ?_⟩
  · rw [isFinite_iff, fmag_packF32 _ _ hinf]
    omega
  all_goals
    rw [hval]
    cases neg <;> simp [abs_of_nonneg, hv0, hq0] <;> intros <;> linarith

theorem roundsWithinOne_zero (neg : Bool) : RoundsWithinOne (packF32 neg 0) 0 := by
  have h0 : roundUnits 0 1 = 0 := by decide
  simpa [h0] using roundsWithinOne_packF32 neg 0 1 Nat.one_pos (Nat.zero_le _)

/-! ### The operations, where the exact result has magnitude at most 1 -/

theorem roundsWithinOne_addCore (x y : F32) (hx : isFinite x = true) (hy : isFinite y = true)
    (h : |fval x + fval y| ≤ 1) : RoundsWithinOne (addCore x y) (fval x + fval y) := by
  have hsum : fval x + fval y = ((unitsInt x + unitsInt y : Int) : ℚ) / 2 ^ 149 := by
    simp [fval, add_div]
  unfold addCore
  rw [if_neg (by simp [isInf_of_isFinite hx]), if_neg (by simp [isInf_of_isFinite hy])]
  dsimp only
  rw [hsum] at h ⊢
  generalize unitsInt x + unitsInt y = n at *
  split
  · rename_i hn
    simpa [hn] using roundsWithinOne_zero _
  · have hn : n.natAbs ≤ 2 ^ 149 * 1 := by
      rw [abs_div, div_le_one (by positivity), abs_of_pos (by positivity : (0 : ℚ) < 2 ^ 149)] at h
      have h' : |n| ≤ 2 ^ 149 := by exact_mod_cast h
      rw [Int.abs_eq_natAbs] at h'
      omega
    have hr := roundsWithinOne_packF32 (decide (n < 0)) n.natAbs 1 Nat.one_pos hn
    have hq : ((if decide (n < 0) then -1 else 1 : ℚ) * (n.natAbs / ((1 : Nat) * 2 ^ 149))) =
        n / 2 ^ 149 := by
      have habs : (n.natAbs : ℚ) = |(n : ℚ)| := by simp [Nat.cast_natAbs]
      rw [habs]
      rcases lt_or_ge n 0 with hneg | hpos
      · have : (n : ℚ) < 0 := by exact_mod_cast hneg
        simp [hneg, abs_of_neg this, neg_div]
      · have : (0 : ℚ) ≤ n := by exact_mod_cast hpos
        simp [not_lt.2 hpos, abs_of_nonneg this]
    rwa [hq] at hr

theorem roundsWithinOne_fadd (x y : F32) (hx : isFinite x = true) (hy : isFinite y = true)
    (h : |fval x + fval y| ≤ 1) : RoundsWithinOne (fadd x y) (fval x + fval y) := by
  unfold fadd
  rw [if_neg (by simp [isNaN_of_isFinite hx, isNaN_of_isFinite hy, isInf_of_isFinite hx])]
  exact roundsWithinOne_addCore x y hx hy h

theorem roundsWithinOne_fsub (x y : F32) (hx : isFinite x = true) (hy : isFinite y = true)
    (h : |fval x - fval y| ≤ 1) : RoundsWithinOne (fsub x y) (fval x - fval y) := by
  unfold fsub
  rw [if_neg (by simp [isNaN_of_isFinite hx, isNaN_of_isFinite hy, isInf_of_isFinite hx])]
  rw [sub_eq_add_neg, ← fval_fneg] at h ⊢
  exact roundsWithinOne_addCore x (fneg y) hx ((isFinite_fneg y).trans hy) h

theorem fval_eq_signed (x : F32) :
    fval x = (if fsign x then -1 else 1) * (units x / 2 ^ 149) := by
  simp only [fval, unitsInt]
  cases fsign x <;> simp [neg_div]

theorem roundsWithinOne_fmul (x y : F32) (hx : isFinite x = true) (hy : isFinite y = true)
    (h : |fval x * fval y| ≤ 1) : RoundsWithinOne (fmul x y) (fval x * fval y) := by
  have hprod : fval x * fval y = (if fsign x != fsign y then -1 else 1) *
      ((units x * units y : Nat) / ((2 ^ 149 : Nat) * 2 ^ 149)) := by
    rw [fval_eq_signed x, fval_eq_signed y]
    cases fsign x <;> cases fsign y <;> simp <;> ring
  have hle : units x * units y ≤ 2 ^ 149 * 2 ^ 149 := by
    rw [hprod, abs_mul, show |(if fsign x != fsign y then -1 else 1 : ℚ)| = 1 by split <;> simp, one_mul,
      abs_of_nonneg (by positivity), div_le_one (by positivity)] at h
    exact_mod_cast h
  unfold fmul
  dsimp only
  rw [if_neg (by simp [isNaN_of_isFinite hx, isNaN_of_isFinite hy, isInf_of_isFinite hx,
      isInf_of_isFinite hy]), if_neg (by simp [isInf_of_isFinite hx, isInf_of_isFinite hy]), hprod]
  exact roundsWithinOne_packF32 _ _ _ (by positivity) hle

end Sys2Proof.Machine

end

section
/-! The envelope of the melodic voices stays in [0, 1] in rounded arithmetic (R57, R134). -/

namespace Sys2Proof.Machine

/-! ### The interval [0, 1] -/

theorem inUnit_of_roundsWithinOne {z : F32} {q : ℚ} (h : RoundsWithinOne z q) (hq : 0 ≤ q) :
    inUnit z = true :=
  (inUnit_iff z).2 ⟨h.finite, h.nonneg hq, (abs_le.1 h.le_one).2⟩

/-- A rounding of a value from 0 to 1 is from 0 to twice that value. -/
theorem fval_bounds_of_roundsWithinOne {z : F32} {q : ℚ} (h : RoundsWithinOne z q) (hq : 0 ≤ q) :
    0 ≤ fval z ∧ fval z ≤ 2 * q := by
  refine ⟨h.nonneg hq, ?_⟩
  rw [← abs_of_nonneg (h.nonneg hq), ← abs_of_nonneg hq]
  exact h.le_double

theorem roundsWithinOne_fofRatio (num den : Nat) (hden : 0 < den) (h : num ≤ den) :
    RoundsWithinOne (fofRatio num den) (num / den) := by
  have hr := roundsWithinOne_packF32 false (num * 2 ^ 149) den hden (by nlinarith)
  have hq : ((num * 2 ^ 149 : Nat) / (den * 2 ^ 149) : ℚ) = num / den := by
    rw [Nat.cast_mul, Nat.cast_pow, Nat.cast_ofNat, mul_div_mul_right _ _ (by positivity)]
  rw [hq] at hr
  simpa [fofRatio] using hr

theorem inUnit_fmul {x y : F32} (hx : inUnit x = true) (hy : inUnit y = true) :
    inUnit (fmul x y) = true := by
  obtain ⟨hxf, hx0, hx1⟩ := (inUnit_iff x).1 hx
  obtain ⟨hyf, hy0, hy1⟩ := (inUnit_iff y).1 hy
  have hxy : 0 ≤ fval x * fval y := mul_nonneg hx0 hy0
  refine inUnit_of_roundsWithinOne (roundsWithinOne_fmul x y hxf hyf ?_) hxy
  rw [abs_of_nonneg hxy]
  exact mul_le_one₀ hx1 hy0 hy1

theorem inUnit_one_sub {x : F32} (hx : inUnit x = true) : inUnit (fsub (fofInt 1) x) = true := by
  obtain ⟨hxf, hx0, hx1⟩ := (inUnit_iff x).1 hx
  obtain ⟨hof, -, -⟩ := (inUnit_iff _).1 inUnit_one
  have hone := fval_one
  have hq : 0 ≤ fval (fofInt 1) - fval x := by linarith
  refine inUnit_of_roundsWithinOne (roundsWithinOne_fsub _ x hof hxf ?_) hq
  rw [abs_of_nonneg hq]
  linarith

/-- The reciprocal of a value that is at least 1 is in [0, 1]; of ∞ it is 0. -/
theorem inUnit_one_div {y : F32} (hy : fle (fofInt 1) y = true) :
    inUnit (fdiv (fofInt 1) y) = true := by
  obtain ⟨-, hnan, hkey⟩ := (fle_iff _ _).1 hy
  have hone : fsign (fofInt 1) = false ∧ fmag (fofInt 1) = 0x3F800000 ∧ isNaN (fofInt 1) = false ∧
      isInf (fofInt 1) = false ∧ fkey (fofInt 1) = 0x3F800000 := by
    rw [fofInt_one]
    decide
  obtain ⟨hs1, hm1, hn1, hi1, hk1⟩ := hone
  rw [hk1, fkey] at hkey
  have hsign : fsign y = false := by
    by_contra hc
    rw [if_pos (by simpa using hc)] at hkey
    omega
  have hmag : 0x3F800000 ≤ fmag y := by
    rw [hsign, if_neg Bool.false_ne_true] at hkey
    omega
  have hmag0 : fmag y ≠ 0 := by omega
  have hunits : 2 ^ 149 ≤ units y := by
    rw [← magUnits_one, units_eq_magUnits]
    exact magUnits_strictMono.monotone hmag
  have hunits1 : units (fofInt 1) = 2 ^ 149 := by rw [units_eq_magUnits, hm1, magUnits_one]
  unfold fdiv
  dsimp only
  rw [if_neg (by simp [-fofInt_one, hn1, hnan, hi1, hm1]),
    if_neg (by simp [-fofInt_one, hi1, hmag0]), hs1, hsign, hunits1]
  split
  · exact inUnit_of_roundsWithinOne (roundsWithinOne_zero _) le_rfl
  · refine inUnit_of_roundsWithinOne
      (roundsWithinOne_packF32 _ _ _ (by omega) (Nat.mul_le_mul_left _ hunits)) ?_
    simp only [bne_self_eq_false, Bool.false_eq_true, if_false, one_mul]
    positivity

/-! ### The envelope -/

/-- The envelope's target is in [0, 1] if the sustain level is. -/
theorem inUnit_envTarget {c : VoiceCfg} (hc : inUnit c.sustain = true) (elapsed : F32) :
    inUnit (envTarget c elapsed) = true := by
  unfold envTarget
  split
  · exact inUnit_one
  · exact hc

/-- The release factor is in [0, 1] for a release of at least one sample. -/
theorem inUnit_releaseFactor {c : VoiceCfg} (hc : fle (fofInt 1) c.releaseS = true) :
    inUnit (releaseFactor c) = true :=
  inUnit_one_sub (inUnit_one_div hc)

/-- The approach rate is far below 1, so that its rounding errors cannot carry the level past its target. -/
theorem envRate_bounds {b : F32} (hb : inUnit b = true) :
    isFinite (envRate b) = true ∧ 0 ≤ fval (envRate b) ∧ fval (envRate b) ≤ 1 / 4 := by
  obtain ⟨hbf, hb0, hb1⟩ := (inUnit_iff b).1 hb
  have h7 := roundsWithinOne_fofRatio 7 1000 (by omega) (by omega)
  have h1 := roundsWithinOne_fofRatio 1 1000 (by omega) (by omega)
  obtain ⟨h70, h7u⟩ := fval_bounds_of_roundsWithinOne h7 (by norm_num)
  obtain ⟨h10, h1u⟩ := fval_bounds_of_roundsWithinOne h1 (by norm_num)
  norm_num at h7u h1u
  have hp0 : 0 ≤ fval (fofRatio 7 1000) * fval b := mul_nonneg h70 hb0
  have hp1 : fval (fofRatio 7 1000) * fval b ≤ 7 / 500 := by nlinarith
  have hp := roundsWithinOne_fmul _ _ h7.finite hbf (by rw [abs_of_nonneg hp0]; linarith)
  obtain ⟨hm0, hmu⟩ := fval_bounds_of_roundsWithinOne hp hp0
  have hs0 : 0 ≤ fval (fofRatio 1 1000) + fval (fmul (fofRatio 7 1000) b) := by linarith
  have hs := roundsWithinOne_fadd _ _ h1.finite hp.finite (by rw [abs_of_nonneg hs0]; linarith)
  obtain ⟨hr0, hru⟩ := fval_bounds_of_roundsWithinOne hs hs0
  exact ⟨hs.finite, hr0, by unfold envRate; linarith⟩

/-- A step from a level towards a target at a rate of at most 1/4 stays in [0, 1]: the difference and its
product with the rate are each at most doubled by rounding, so the step is no longer than the way. -/
theorem inUnit_approach {rate target level : F32} (hrf : isFinite rate = true) (hr0 : 0 ≤ fval rate)
    (hr1 : fval rate ≤ 1 / 4) (ht : inUnit target = true) (hl : inUnit level = true) :
    inUnit (fadd level (fmul rate (fsub target level))) = true := by
  obtain ⟨htf, ht0, ht1⟩ := (inUnit_iff _).1 ht
  obtain ⟨hlf, hl0, hl1⟩ := (inUnit_iff _).1 hl
  have hway := roundsWithinOne_fsub target level htf hlf (abs_le.2 ⟨by linarith, by linarith⟩)
  have hd1 := hway.le_one
  have hd2 := hway.le_double
  have hprod : |fval rate * fval (fsub target level)| ≤ 1 := by
    rw [abs_mul, abs_of_nonneg hr0]
    nlinarith [abs_nonneg (fval (fsub target level))]
  have hstep := roundsWithinOne_fmul rate _ hrf hway.finite hprod
  have hlen : |fval (fmul rate (fsub target level))| ≤ |fval target - fval level| := by
    have := hstep.le_double
    rw [abs_mul, abs_of_nonneg hr0] at this
    nlinarith [abs_nonneg (fval (fsub target level)), abs_nonneg (fval target - fval level)]
  have hsum : 0 ≤ fval level + fval (fmul rate (fsub target level)) ∧
      fval level + fval (fmul rate (fsub target level)) ≤ 1 := by
    rcases le_total (fval level) (fval target) with hup | hdown
    · have hs := hstep.nonneg (mul_nonneg hr0 (hway.nonneg (by linarith)))
      rw [abs_of_nonneg hs, abs_of_nonneg (by linarith)] at hlen
      constructor <;> linarith
    · have hs := hstep.nonpos (mul_nonpos_of_nonneg_of_nonpos hr0 (hway.nonpos (by linarith)))
      rw [abs_of_nonpos hs, abs_of_nonpos (by linarith)] at hlen
      constructor <;> linarith
  refine inUnit_of_roundsWithinOne (roundsWithinOne_fadd _ _ hlf hstep.finite ?_) hsum.1
  rw [abs_of_nonneg hsum.1]
  exact hsum.2

/-- The envelope stays in [0, 1]: the approach does, and the release factor only shrinks it. -/
theorem inUnit_envLevel {c : VoiceCfg} {b level : F32} (elapsed : F32) (hl : inUnit level = true)
    (hs : inUnit c.sustain = true) (hr : fle (fofInt 1) c.releaseS = true) (hb : inUnit b = true) :
    inUnit (envLevel c b elapsed level) = true := by
  obtain ⟨hf, h0, h1⟩ := envRate_bounds hb
  exact inUnit_fmul (inUnit_approach hf h0 h1 (inUnit_envTarget hs elapsed) hl) (inUnit_releaseFactor hr)

/-- VOICE_STEP sets the voice's level to the envelope's next value. -/
theorem voiceStep_level (v : VoiceId) (s : State) :
    ((voiceStep v s).voice v).level =
      envLevel (s.cfg.voice v) s.sh.brightness (fadd (s.voice v).elapsed (fofInt 1)) (s.voice v).level := by
  cases v <;> rfl

theorem exec_voiceStepOf (v : VoiceId) (s : State) : exec (voiceStepOf v) s = .next (voiceStep v s) := by
  cases v <;> rfl

/-- Settles O37: each operation of the envelope's step keeps [0, 1] in rounded arithmetic. -/
theorem envelopeStaysBetweenZeroAndOne : Obligations.EnvelopeStaysBetweenZeroAndOne := by
  intro v s hlevel hsustain hrelease hbright
  refine ⟨voiceStep v s, exec_voiceStepOf v s, ?_⟩
  rw [voiceStep_level]
  exact inUnit_envLevel _ hlevel hsustain hrelease hbright

end Sys2Proof.Machine

end

section
/-! The bus commands: what a plain read or write changes (R55, R56, R67). -/

namespace Sys2Proof.Machine

/-- A bus command is the read or the write of a register. -/
theorem decodeHB16_eq_ok {cmd : BitVec 16} {d : Word} {i : Instr} (h : decodeHB16 cmd d = .ok i) :
    ∃ r, i = readOf r ∨ i = writeOf r d := by
  unfold decodeHB16 at h
  split at h
  · cases h
  · split at h
    · cases h
    · split at h
      · cases h
      · rename_i r _
        cases h
        refine ⟨r, ?_⟩
        cases cmdW cmd
        · exact .inl rfl
        · exact .inr rfl

/-- An instruction's code decodes to it. -/
theorem decode_encode (i : Instr) : decode (encode i) = .ok i := by
  cases i <;> rfl

/-- A plain command is a read, or a write to a register other than RENDER and RESET. -/
theorem plainCommand_cases {i : Instr} (h : plainCommand i) :
    (∃ r, i = readOf r) ∨ ∃ r d, r ≠ .render ∧ r ≠ .reset ∧ i = writeOf r d := by
  have hdec := decode_encode i
  unfold plainCommand at h
  split at h
  · exact h.elim
  · rename_i cmd d hcode
    obtain ⟨hrender, hreset⟩ := h
    rw [hcode] at hdec
    obtain ⟨r, rfl | rfl⟩ := decodeHB16_eq_ok hdec
    · exact .inl ⟨r, rfl⟩
    · refine .inr ⟨r, d, ?_, ?_, rfl⟩
      · rintro rfl
        cases hcode
        exact hrender rfl
      · rintro rfl
        cases hcode
        exact hreset rfl

/-- A read answers with a word and does nothing else. -/
theorem exec_readOf (r : Reg) (s : State) : ∃ w, exec (readOf r) s = .next (busReply w s) := by
  cases r <;> exact ⟨_, rfl⟩

/-- What a plain write may do to the register block: BUSY and the read-back of RENDER stay; ERRCAUSE is kept
or cleared with BUSERR; MOTION is kept or takes a value in [0, 1] (R189, R201). -/
structure PlainWrite (g g' : Regs) : Prop where
  busy : g'.ctrl.busy = g.ctrl.busy
  render : g'.render = g.render
  error : (g'.ctrl.buserr = g.ctrl.buserr ∧ g'.ctrl.errcause = g.ctrl.errcause) ∨
    (g'.ctrl.buserr = false ∧ g'.ctrl.errcause = 0#3)
  motion : g'.motion = g.motion ∨ inUnit g'.motion = true

/-- A write to a register other than RENDER and RESET changes the register block alone. -/
theorem exec_writeOf {r : Reg} {d : Word} {s t : State} (hrender : r ≠ .render) (hreset : r ≠ .reset)
    (h : exec (writeOf r d) s = .next t) : t = { s with reg := t.reg } ∧ PlainWrite s.reg t.reg := by
  cases r with
  | render => exact absurd rfl hrender
  | reset => exact absurd rfl hreset
  | motion =>
    obtain ⟨hd, rfl⟩ := execWrMotion_eq_next d s t h
    exact ⟨rfl, rfl, rfl, .inl ⟨rfl, rfl⟩, .inr (inUnit_clampUnit d hd)⟩
  | ctrl =>
    cases h
    refine ⟨rfl, rfl, rfl, ?_, .inl rfl⟩
    cases hclear : d.getLsbD 2
    · exact .inl (by simp only [ctrlAfterWrite, hclear, Bool.false_eq_true, if_false, and_self])
    · exact .inr (by simp only [ctrlAfterWrite, hclear, if_true, and_self])
  | _ =>
    cases h
    exact ⟨rfl, rfl, rfl, .inl ⟨rfl, rfl⟩, .inl rfl⟩

/-- A plain command answers a word, or writes the register block. -/
theorem exec_plainCommand {i : Instr} {s t : State} (hi : plainCommand i) (h : exec i s = .next t) :
    (∃ w, t = busReply w s) ∨ (t = { s with reg := t.reg } ∧ PlainWrite s.reg t.reg) := by
  obtain ⟨r, rfl⟩ | ⟨r, d, hrender, hreset, rfl⟩ := plainCommand_cases hi
  · obtain ⟨w, hw⟩ := exec_readOf r s
    exact .inl ⟨w, by cases hw.symm.trans h; rfl⟩
  · exact .inr (exec_writeOf hrender hreset h)

/-- Settles O55: a plain command is a read, which changes the answer alone, or a write, which changes the
register block alone. -/
theorem plainCommandsLeaveTheDatapath : Obligations.PlainCommandsLeaveTheDatapath := by
  intro i s t hi h
  obtain ⟨w, rfl⟩ | ⟨ht, hw⟩ := exec_plainCommand hi h
  · exact ⟨rfl, rfl, rfl, .inr rfl⟩
  · have hrdata : t.rdata = s.rdata := by rw [ht]
    exact ⟨by rw [hrdata]; exact ht, hw.busy, hw.render, .inl hrdata⟩

end Sys2Proof.Machine

end

section
/-! The groups of the engine's state and the instructions that write them (R22, R39 to R56, R115). -/

namespace Sys2Proof.Machine

/-! ### What the micro-operations made of several parts write -/

/-- A register read of PARAM_REFRESH adds to what earlier reads wrote nothing but accumulators and local
variables. -/
theorem refreshRead_frame_trans (n : Nat) {s t : State}
    (h : ∃ acc refr, t = { s with acc := acc, refr := refr }) :
    ∃ acc refr, refreshRead n t = { s with acc := acc, refr := refr } := by
  obtain ⟨acc, refr, rfl⟩ := h
  unfold refreshRead
  split <;> exact ⟨_, _, rfl⟩

theorem refreshRead_frame (n : Nat) (s : State) :
    ∃ acc refr, refreshRead n s = { s with acc := acc, refr := refr } :=
  refreshRead_frame_trans n ⟨s.acc, s.refr, rfl⟩

theorem refreshReads_frame_trans {s t : State} (h : ∃ acc refr, t = { s with acc := acc, refr := refr }) :
    ∃ acc refr, refreshReads t = { s with acc := acc, refr := refr } :=
  refreshRead_frame_trans 8 (refreshRead_frame_trans 7 (refreshRead_frame_trans 6
    (refreshRead_frame_trans 5 (refreshRead_frame_trans 4 (refreshRead_frame_trans 3
      (refreshRead_frame_trans 2 (refreshRead_frame_trans 1 h)))))))

theorem refreshApply_frame {s t : State} (h : refreshApply s = .next t) :
    ∃ sh rng, t = { s with sh := sh, rng := rng } := by
  obtain ⟨-, rfl⟩ := refreshApply_eq_next s t h
  split <;> exact ⟨_, _, rfl⟩

theorem execParamRefresh_frame {s t : State} (h : execParamRefresh s = .next t) :
    ∃ acc refr sh rng, t = { s with acc := acc, refr := refr, sh := sh, rng := rng } := by
  unfold execParamRefresh at h
  split at h
  · obtain ⟨acc, refr, hreads⟩ := refreshReads_frame_trans (refreshRead_frame 0 s)
    rw [hreads] at h
    obtain ⟨sh, rng, rfl⟩ := refreshApply_frame h
    exact ⟨acc, refr, sh, rng, rfl⟩
  · obtain ⟨acc, refr, hread⟩ := refreshRead_frame 0 s
    cases h
    exact ⟨acc, refr, s.sh, s.rng, hread⟩

theorem reconcileTiming_frame (s : State) :
    ∃ tim recon, reconcileTiming s = { s with tim := tim, recon := recon } := by
  unfold reconcileTiming
  split <;> exact ⟨_, _, rfl⟩

theorem reconcileScale_frame (s : State) :
    ∃ recon rng walk, reconcileScale s = { s with recon := recon, rng := rng, walk := walk } := by
  unfold reconcileScale
  rw [scaleRebuild_eq]
  split <;> exact ⟨_, _, _, rfl⟩

theorem publishMeter_frame (k : Nat) {s t : State} (h : ∃ meter, t = { s with meter := meter }) :
    ∃ meter, publishMeter k t = { s with meter := meter } := by
  obtain ⟨meter, rfl⟩ := h
  exact ⟨_, rfl⟩

theorem publishMeters_frame (s : State) : ∃ meter, publishMeters s = { s with meter := meter } :=
  publishMeter_frame 6 (publishMeter_frame 5 (publishMeter_frame 4 (publishMeter_frame 3
    (publishMeter_frame 2 (publishMeter_frame 1 (publishMeter_frame 0 ⟨s.meter, rfl⟩))))))

theorem percGate_frame (s : State) :
    ∃ rng perc fire,
      percGate s = { s with rng := rng, perc := perc, ev := { s.ev with percFire := fire } } := by
  unfold percGate
  dsimp only
  split <;> exact ⟨_, _, _, rfl⟩

theorem percStep_frame (s : State) :
    ∃ rng perc L R,
      percStep s = { s with rng := rng, perc := perc, mix := { s.mix with L := L, R := R } } := by
  unfold percStep
  split <;> exact ⟨_, _, _, _, rfl⟩

theorem voiceStep_frame {v : VoiceId} {s t : State} (h : (.next (voiceStep v s) : Result) = .next t) :
    ∃ x L R, t = { s.setVoice v x with mix := { s.mix with L := L, R := R } } := by
  cases h
  exact ⟨_, _, _, rfl⟩

theorem voiceTrigger_frame {v : VoiceId} {s t : State} (h : (.next (voiceTrigger v s) : Result) = .next t) :
    ∃ x, t = s.setVoice v x := by
  cases h
  exact ⟨_, rfl⟩

theorem noteFreq_frame {v : VoiceId} {s t : State} (h : noteFreq v s = .next t) :
    ∃ x, t = s.setVoice v x :=
  ⟨_, (noteFreq_eq_next v s t h).2⟩

theorem execArpTrigger_frame {s t : State} (h : execArpTrigger s = .next t) :
    ∃ x, t = (walkerAdvance s).setVoice .arp x := by
  obtain ⟨u, hu, ht⟩ := andThen_eq_next _ _ _ h
  obtain ⟨x, rfl⟩ := noteFreq_frame hu
  cases ht
  exact ⟨_, rfl⟩

theorem execPadTrigger_frame {s t : State} (h : execPadTrigger s = .next t) :
    ∃ x, t = s.setVoice .pad x := by
  obtain ⟨u, hu, ht⟩ := andThen_eq_next _ _ _ h
  obtain ⟨x, rfl⟩ := noteFreq_frame hu
  cases ht
  exact ⟨_, rfl⟩

/-! ### The groups of the state and their writers -/

/-- What an instruction that does not construct keeps, group by group (R22, R39 to R56, R115); beside the
groups of StateGroupsHaveOnlyTheirWriters, host memory, and the register block for the micro-operations. -/
structure KeepsGroups (i : Instr) (s t : State) : Prop where
  cfg : t.cfg = s.cfg
  ev : i ≠ .clockTick → t.ev = { s.ev with percFire := t.ev.percFire }
  percFire : i ≠ .percGate → t.ev.percFire = s.ev.percFire
  frameMix : i ∉ [.voiceStepArp, .voiceStepPad, .percStep] → t.mix.L = s.mix.L ∧ t.mix.R = s.mix.R
  output : i ≠ .mixDelay → t.mix.yL = s.mix.yL ∧ t.mix.yR = s.mix.yR
  sequencer : (∀ d, i ≠ .wrRender d) → t.seq = s.seq ∧ t.blk = s.blk
  shadow : i ≠ .paramRefresh → t.sh = s.sh ∧ t.refr = s.refr
  recon : i ≠ .reconcile → t.recon = s.recon
  tim : i ∉ [.timingRecompute, .reconcile] → t.tim = s.tim
  clk : i ≠ .clockTick → t.clk = s.clk
  walk : i ∉ [.scaleRebuild, .walkerAdvance, .arpTrigger, .reconcile] → t.walk = s.walk
  arp : i ∉ [.noteFreqArp, .voiceTriggerArp, .voiceStepArp, .arpTrigger] → t.arp = s.arp
  pad : i ∉ [.noteFreqPad, .voiceTriggerPad, .voiceStepPad, .padTrigger] → t.pad = s.pad
  perc : i ∉ [.percTrigger, .percGate, .percStep] → t.perc = s.perc
  dly : i ≠ .mixDelay → t.dly = s.dly
  band : i ≠ .bandFollow → t.band = s.band
  acc : i ∉ [.paramRefresh, .bandFollow, .loudnessAccum] → t.acc = s.acc
  meter : i ≠ .meterPublish → t.meter = s.meter
  mem : i ≠ .frameWrite → t.mem = s.mem
  reg : i ≠ .meterPublish → (∀ r, i ≠ readOf r) → (∀ r d, i ≠ writeOf r d) → t.reg = s.reg

/-- A plain command keeps every group but the register block. -/
theorem keepsGroups_of_plainCommand {i : Instr} {s t : State} (hi : plainCommand i)
    (h : exec i s = .next t) : KeepsGroups i s t := by
  have hcommand : ¬ ((∀ r, i ≠ readOf r) ∧ ∀ r d, i ≠ writeOf r d) := by
    rintro ⟨hread, hwrite⟩
    obtain ⟨r, hr⟩ | ⟨r, d, -, -, hr⟩ := plainCommand_cases hi
    · exact hread r hr
    · exact hwrite r d hr
  obtain ⟨ht, -⟩ := plainCommandsLeaveTheDatapath i s t hi h
  generalize t.reg = reg, t.rdata = rdata at ht
  subst ht
  constructor
  case reg => exact fun _ hread hwrite => absurd ⟨hread, hwrite⟩ hcommand
  all_goals simp

/-- WR RENDER keeps every group but the sequencer position, the block parameters and the register block. -/
theorem keepsGroups_wrRender {d : Word} {s t : State} (h : exec (.wrRender d) s = .next t) :
    KeepsGroups (.wrRender d) s t := by
  have hreg : ¬ ∀ r d', Instr.wrRender d ≠ writeOf r d' := fun hn => hn .render d rfl
  obtain ⟨-, ht⟩ | ⟨-, -, ht⟩ | ⟨-, -, ht⟩ := execWrRender_cases d s
  all_goals
    cases ht.symm.trans h
    constructor <;> simp [hreg]

/-- Every instruction that does not construct keeps the groups that it is no writer of. -/
theorem exec_keepsGroups {i : Instr} {s t : State} (h : exec i s = .next t) (hc : ¬ constructs i) :
    KeepsGroups i s t := by
  cases i with
  | construct => exact absurd (.inl rfl) hc
  | wrReset d => exact absurd (.inr ⟨d, rfl⟩) hc
  | wrRender d => exact keepsGroups_wrRender h
  | paramRefresh =>
    obtain ⟨acc, refr, sh, rng, rfl⟩ := execParamRefresh_frame h
    constructor <;> simp
  | reconcile =>
    cases h
    obtain ⟨tim, recon, htiming⟩ := reconcileTiming_frame s
    obtain ⟨recon', rng, walk, hscale⟩ := reconcileScale_frame (reconcileTiming s)
    rw [hscale, htiming]
    constructor <;> simp
  | arpTrigger =>
    obtain ⟨x, rfl⟩ := execArpTrigger_frame h
    constructor <;> simp
  | padTrigger =>
    obtain ⟨x, rfl⟩ := execPadTrigger_frame h
    constructor <;> simp
  | percGate =>
    cases h
    obtain ⟨rng, perc, fire, hgate⟩ := percGate_frame s
    rw [hgate]
    constructor <;> simp
  | percStep =>
    cases h
    obtain ⟨rng, perc, L, R, hstep⟩ := percStep_frame s
    rw [hstep]
    constructor <;> simp
  | voiceStepArp | voiceStepPad =>
    obtain ⟨x, L, R, rfl⟩ := voiceStep_frame h
    constructor <;> simp
  | voiceTriggerArp | voiceTriggerPad =>
    obtain ⟨x, rfl⟩ := voiceTrigger_frame h
    constructor <;> simp
  | noteFreqArp | noteFreqPad =>
    obtain ⟨x, rfl⟩ := noteFreq_frame h
    constructor <;> simp
  | frameWrite =>
    obtain ⟨-, rfl⟩ := execFrameWrite_eq_next s t h
    constructor <;> simp
  | meterPublish =>
    cases h
    obtain ⟨meter, hmeters⟩ := publishMeters_frame s
    rw [hmeters]
    constructor <;> simp
  | clockTick =>
    cases h
    constructor
    case percFire => exact fun _ => rfl
    all_goals simp
  | timingRecompute | scaleRebuild | walkerAdvance | percTrigger | mixDelay | bandFollow | rngInit
  | rngFraction | rngIntRange | loudnessAccum =>
    cases h
    constructor <;> simp
  | _ => exact keepsGroups_of_plainCommand (And.intro (by decide) (by decide)) h

/-- Settles O54: the groups of the engine's state, out of what each instruction writes. -/
theorem stateGroupsHaveOnlyTheirWriters : Obligations.StateGroupsHaveOnlyTheirWriters := by
  intro i s t h hc
  have hk := exec_keepsGroups h hc
  exact ⟨hk.cfg, hk.ev, hk.percFire, hk.frameMix, hk.output, hk.sequencer, hk.shadow, hk.recon, hk.tim,
    hk.clk, hk.walk, hk.arp, hk.pad, hk.perc, hk.dly, hk.band, hk.acc, hk.meter⟩

end Sys2Proof.Machine

end

section
/-! The scale table and the walker: the index stays inside the table (R58, R112, R113). -/

namespace Sys2Proof.Machine

/-- The index that SCALE_REBUILD draws lies inside the ROM row (R112). -/
theorem drawnInt_lt_scaleRow_length (sel : BitVec 2) (s : State) :
    (drawnInt 0#32 (BitVec.ofNat 32 ((scaleRow sel).length - 1)) s).toInt.toNat < (scaleRow sel).length := by
  have hpos := scaleRow_length_pos sel
  have hle := scaleRow_length_le sel
  have hhi : (BitVec.ofNat 32 ((scaleRow sel).length - 1)).toInt = (scaleRow sel).length - 1 := by
    rw [BitVec.toInt_eq_toNat_of_lt] <;> rw [BitVec.toNat_ofNat] <;> omega
  have hzero : (0#32 : Word).toInt = 0 := rfl
  have hdraw := (intInRange_bounds s.rng.s 0#32 (BitVec.ofNat 32 ((scaleRow sel).length - 1)) (by omega)).2
  unfold drawnInt
  omega

theorem scaleRebuild_walk (sel : BitVec 2) (s : State) :
    (scaleRebuild sel s).walk.tbl = scaleRow sel ∧
      (scaleRebuild sel s).walk.len = (scaleRow sel).length ∧
      (scaleRebuild sel s).walk.idx < (scaleRow sel).length := by
  rw [scaleRebuild_eq]
  exact ⟨rfl, rfl, drawnInt_lt_scaleRow_length sel s⟩

/-- WALKER_ADVANCE keeps the table, and a walker of a non-empty table inside it (R58, R113). -/
theorem walkerAdvance_walk (s : State) (h : 0 < s.walk.len) :
    (walkerAdvance s).walk.tbl = s.walk.tbl ∧ (walkerAdvance s).walk.len = s.walk.len ∧
      (walkerAdvance s).walk.idx < s.walk.len := by
  unfold walkerAdvance
  rw [if_neg h.ne']
  exact ⟨rfl, rfl, walkerStep_lt _ _ h⟩

/-- Settles O30: SCALE_REBUILD draws an index of the row, WALKER_ADVANCE saturates at the table's edges. -/
theorem walkerStaysInsideTheTable : Obligations.WalkerStaysInsideTheTable := by
  refine ⟨fun s t h => ?_, fun s t hlen h => ?_⟩
  · cases h
    obtain ⟨-, hlen, hidx⟩ := scaleRebuild_walk s.sh.scale s
    rwa [hlen]
  · cases h
    obtain ⟨-, hlen', hidx⟩ := walkerAdvance_walk s hlen
    rwa [hlen']

end Sys2Proof.Machine

end

section
/-! What one step of the machine can be, by the serial order and the position (R166, R170, R186, R187). -/

namespace Sys2Proof.Machine

@[simp] theorem popped_reg (s : State) : (popped s).reg = s.reg := rfl
@[simp] theorem popped_seq (s : State) : (popped s).seq = s.seq := rfl
@[simp] theorem popped_blk (s : State) : (popped s).blk = s.blk := rfl

/-- The micro-operations of the frame micro-program (R170). -/
def frameOps : List Instr :=
  [.clockTick, .arpTrigger, .percGate, .padTrigger, .voiceStepArp, .voiceStepPad, .percStep, .mixDelay,
   .bandFollow, .loudnessAccum, .frameWrite]

theorem ne_readOf_of_mem_frameOps {i : Instr} (hi : i ∈ frameOps) (r : Reg) : i ≠ readOf r :=
  ne_of_mem_of_not_mem hi (by cases r <;> decide)

theorem ne_writeOf_of_mem_frameOps {i : Instr} (hi : i ∈ frameOps) (r : Reg) (d : Word) :
    i ≠ writeOf r d :=
  ne_of_mem_of_not_mem hi (by cases r <;> simp [writeOf, frameOps])

theorem not_constructs_of_mem_frameOps {i : Instr} (hi : i ∈ frameOps) : ¬ constructs i := by
  rintro (hconstruct | ⟨d, hreset⟩)
  · exact ne_of_mem_of_not_mem hi (by decide) hconstruct
  · exact ne_writeOf_of_mem_frameOps hi .reset d hreset

/-- The code of a micro-program step is that of a micro-operation of R170. -/
theorem fetchUop_of_microOp {s : State} {op : BitVec 8} (h : microOp s = some op) :
    ∃ i ∈ frameOps, ∀ u a, fetchUop op u a = .run i u a := by
  unfold microOp at h
  split at h
  case h_1 => cases h; exact ⟨.clockTick, by decide, fun _ _ => rfl⟩
  case h_2 => split at h <;> cases h; exact ⟨.arpTrigger, by decide, fun _ _ => rfl⟩
  case h_3 => split at h <;> cases h; exact ⟨.percGate, by decide, fun _ _ => rfl⟩
  case h_4 => split at h <;> cases h; exact ⟨.padTrigger, by decide, fun _ _ => rfl⟩
  case h_5 => split at h <;> cases h; exact ⟨.voiceStepArp, by decide, fun _ _ => rfl⟩
  case h_6 => split at h <;> cases h; exact ⟨.voiceStepPad, by decide, fun _ _ => rfl⟩
  case h_7 => split at h <;> cases h; exact ⟨.percStep, by decide, fun _ _ => rfl⟩
  case h_8 => cases h; exact ⟨.mixDelay, by decide, fun _ _ => rfl⟩
  case h_9 => cases h; exact ⟨.bandFollow, by decide, fun _ _ => rfl⟩
  case h_10 => cases h; exact ⟨.loudnessAccum, by decide, fun _ _ => rfl⟩
  case h_11 => cases h; exact ⟨.frameWrite, by decide, fun _ _ => rfl⟩
  case h_12 => cases h

/-- What an engine step at a state's position can be (R166, R170). -/
inductive EngineStep (s t : State) : Prop where
  | idle (phase : s.seq.phase = .idle) (idles : t = s)
  | refresh (phase : s.seq.phase = .refresh) (reads : refreshStep s = .next t)
  | reconcile (phase : s.seq.phase = .reconcile) (u : State) (runs : exec .reconcile s = .next u)
      (moves : t = finish .toFrames u)
  | frameOp (phase : s.seq.phase = .frame) (i : Instr) (listed : i ∈ frameOps) (u : State)
      (runs : exec i (microPrelude s) = .next u) (moves : t = finish .nextMicroStep u)
  | frameSkip (phase : s.seq.phase = .frame) (moves : t = finish .nextMicroStep (microPrelude s))
  | publish (phase : s.seq.phase = .publish) (writes : t = publishStep s)

/-- What a bus command can do (R187 to R221): a read answers; a write changes the register block; any command
may be refused; WR RENDER starts a block and WR RESET constructs, both only while BUSY is 0. -/
inductive BusStep (s t : State) : Prop where
  | read (w : Word) (answers : t = busReply w s)
  | write (stores : t = { s with reg := t.reg }) (plain : PlainWrite s.reg t.reg)
  | clearCount (idle : s.reg.ctrl.busy = false)
      (clears : t = { s with reg := { s.reg with render := 0#32 } })
  | refusedWrite (c : BusCause) (refuses : t = busRefuse c s)
  | refusedRead (c : BusCause) (refuses : t = busReply 0#32 (busRefuse c s))
  | start (n : Word) (idle : s.reg.ctrl.busy = false) (some : n ≠ 0#32) (starts : t = startBlock n s)
  | construct (idle : s.reg.ctrl.busy = false) (constructs : construct s = .next t)

theorem busStep_of_exec_writeOf {r : Reg} {d : Word} {s t : State} (h : exec (writeOf r d) s = .next t) :
    BusStep s t := by
  by_cases hrender : r = .render
  · subst hrender
    obtain ⟨-, ht⟩ | ⟨hidle, -, ht⟩ | ⟨hidle, hd, ht⟩ := execWrRender_cases d s
    all_goals cases ht.symm.trans h
    · exact .refusedWrite _ rfl
    · exact .clearCount hidle rfl
    · exact .start d hidle hd rfl
  · by_cases hreset : r = .reset
    · subst hreset
      obtain ⟨-, ht⟩ | ⟨hidle, ht⟩ := execWrReset_cases d s
      · cases ht.symm.trans h
        exact .refusedWrite _ rfl
      · exact .construct hidle (ht.symm.trans h)
    · obtain ⟨ht, hplain⟩ := exec_writeOf hrender hreset h
      exact .write ht hplain

theorem busStep_refuseCommand (cmd : BitVec 16) (c : BusCause) (s : State) :
    BusStep s (refuseCommand cmd c s) := by
  unfold refuseCommand
  split
  · exact .refusedWrite c rfl
  · exact .refusedRead c rfl

/-- The outcome of a fetch, once its instruction has run. -/
def Fetched.outcome (f : Fetched) : Result :=
  match f with
  | .run i t after => andThen (exec i t) fun u => .next (finish after u)
  | .done r => r

theorem Fetched.outcome_run (i : Instr) (t : State) (a : After) :
    (Fetched.run i t a).outcome = andThen (exec i t) fun u => .next (finish a u) := rfl

theorem step_eq_outcome (s : State) : step s = (fetch s).outcome := rfl

theorem engineStep_of_fetchEngine {s t : State} (h : (fetchEngine s).outcome = .next t) :
    EngineStep s t := by
  unfold fetchEngine at h
  split at h
  case h_1 phase =>
    cases h
    exact .idle phase rfl
  case h_2 phase => exact .refresh phase h
  case h_3 phase =>
    have hfetch : fetchUop 0x04#8 s .toFrames = .run .reconcile s .toFrames := rfl
    rw [hfetch, Fetched.outcome_run] at h
    obtain ⟨u, hu, ht⟩ := andThen_eq_next _ _ _ h
    cases ht
    exact .reconcile phase u hu rfl
  case h_4 phase =>
    split at h
    · rename_i op hop
      obtain ⟨i, hi, hfetch⟩ := fetchUop_of_microOp hop
      rw [hfetch, Fetched.outcome_run] at h
      obtain ⟨u, hu, ht⟩ := andThen_eq_next _ _ _ h
      cases ht
      exact .frameOp phase i hi u hu rfl
    · cases h
      exact .frameSkip phase rfl
  case h_5 phase =>
    cases h
    exact .publish phase rfl

theorem busStep_of_fetchHB16 {cmd : BitVec 16} {d : Word} {s t : State}
    (h : (fetchHB16 cmd d s).outcome = .next t) : BusStep s t := by
  unfold fetchHB16 at h
  split at h
  · rename_i i hi
    obtain ⟨u, hu, ht⟩ := andThen_eq_next _ _ _ h
    cases ht
    obtain ⟨r, rfl | rfl⟩ := decodeHB16_eq_ok hi
    · obtain ⟨w, hw⟩ := exec_readOf r s
      cases hw.symm.trans hu
      exact .read w rfl
    · exact busStep_of_exec_writeOf hu
  · rename_i c _
    cases h
    exact busStep_refuseCommand cmd c s
  · cases h

/-- Where nobody uses the micro-operation port, a step is an engine step or takes a bus command, as the
serial order says (R186). -/
theorem step_cases {s t : State} (hport : ∀ op, Event.code (.uop op) ∉ s.sched) (h : step s = .next t) :
    (engineNext s ∧ EngineStep (popped s) t) ∨ (¬ engineNext s ∧ BusStep (popped s) t) := by
  have hpop : ∀ e rest, s.sched = e :: rest → popped s = { s with sched := rest } := by
    intro e rest hs
    simp only [popped, hs, List.tail_cons]
  rw [step_eq_outcome] at h
  unfold fetch at h
  split at h
  · rename_i hs
    have htail : s.sched.tail = s.sched := by rw [hs]; rfl
    have hself : popped s = s := by rw [popped, htail]
    exact .inl ⟨by simp [engineNext, hs], by rw [hself]; exact engineStep_of_fetchEngine h⟩
  · rename_i rest hs
    exact .inl ⟨by simp [engineNext, hs], by rw [hpop _ _ hs]; exact engineStep_of_fetchEngine h⟩
  · rename_i c rest hs
    refine .inr ⟨by simp [engineNext, hs], ?_⟩
    rw [hpop _ _ hs]
    cases c with
    | hb16 cmd d => exact busStep_of_fetchHB16 h
    | uop op => exact absurd (by simp [hs]) (hport op)

end Sys2Proof.Machine

end

section
/-! The sequencer's position after a step (R22, R166). -/

namespace Sys2Proof.Machine

/-! ### How each engine step moves the sequencer -/

@[simp] theorem refreshRead_seq (n : Nat) (s : State) : (refreshRead n s).seq = s.seq := by
  obtain ⟨acc, refr, h⟩ := refreshRead_frame n s
  rw [h]

@[simp] theorem microPrelude_seq (s : State) : (microPrelude s).seq = s.seq := by
  unfold microPrelude
  split <;> rfl

@[simp] theorem microPrelude_blk (s : State) : (microPrelude s).blk = s.blk := by
  unfold microPrelude
  split <;> rfl

/-- PARAM_REFRESH goes on after its register read `sub`: it is not the last, and HOSTV is set (R167). -/
abbrev refreshGoesOn (hostv : Bool) (sub : Nat) : Prop := sub < 8 ∧ (sub = 0 → hostv = true)

/-- A step of PARAM_REFRESH reads and goes on, or ends the phase: at once where HOSTV is 0, and after the
shadow update where it has read all (R167). -/
theorem refreshStep_cases {s t : State} (h : refreshStep s = .next t) :
    (refreshGoesOn s.reg.ctrl.hostv s.seq.sub ∧
        t = { refreshRead s.seq.sub s with seq := { s.seq with sub := s.seq.sub + 1 } }) ∨
      (¬ refreshGoesOn s.reg.ctrl.hostv s.seq.sub ∧ ∃ u, t = toReconcile u ∧
        (u = refreshRead s.seq.sub s ∨ refreshApply (refreshRead s.seq.sub s) = .next u)) := by
  unfold refreshStep at h
  dsimp only at h
  rw [refreshRead_seq] at h
  unfold refreshGoesOn
  split at h
  · rename_i hsub
    split at h <;> rename_i hhostv <;> cases h
    · exact .inl ⟨⟨by omega, fun _ => hhostv⟩, by rw [hsub]⟩
    · exact .inr ⟨fun ⟨_, hgo⟩ => hhostv (hgo hsub), _, rfl, .inl rfl⟩
  · rename_i hsub
    split at h
    · rename_i hlt
      cases h
      exact .inl ⟨⟨hlt, fun h0 => absurd h0 hsub⟩, rfl⟩
    · rename_i hge
      obtain ⟨u, hu, ht⟩ := andThen_eq_next _ _ _ h
      cases ht
      exact .inr ⟨fun ⟨hgo, _⟩ => hge hgo, u, rfl, .inr hu⟩

theorem refreshStep_seq {s t : State} (h : refreshStep s = .next t) :
    t.seq = if refreshGoesOn s.reg.ctrl.hostv s.seq.sub then { s.seq with sub := s.seq.sub + 1 }
      else { s.seq with phase := .reconcile, sub := 0 } := by
  obtain ⟨hgo, rfl⟩ | ⟨hgo, u, rfl, hu⟩ := refreshStep_cases h
  · rw [if_pos hgo]
  · have hseq : u.seq = s.seq := by
      obtain rfl | hu := hu
      · exact refreshRead_seq _ _
      · obtain ⟨sh, rng, rfl⟩ := refreshApply_frame hu
        exact refreshRead_seq _ _
    rw [if_neg hgo, toReconcile_seq, hseq]

theorem publishStep_seq (s : State) :
    (publishStep s).seq =
      if s.seq.sub < 7 then { s.seq with sub := s.seq.sub + 1 } else ⟨.idle, 0, 0, 0⟩ := by
  unfold publishStep
  split <;> rfl

/-- The micro-operations that the sequencer runs leave it to the step to move it. -/
theorem exec_sequencer {i : Instr} {s t : State} (hi : i = .reconcile ∨ i ∈ frameOps)
    (h : exec i s = .next t) : t.seq = s.seq ∧ t.blk = s.blk := by
  have hc : ¬ constructs i ∧ ∀ d, i ≠ .wrRender d := by
    obtain rfl | hi := hi
    · simp [constructs]
    · exact ⟨not_constructs_of_mem_frameOps hi, fun d => ne_writeOf_of_mem_frameOps hi .render d⟩
  exact (exec_keepsGroups h hc.1).sequencer hc.2

/-- The position after an engine step in a block of n frames (R166). -/
def seqAfter (hostv : Bool) (n : Nat) (q : Seq) : Seq :=
  match q.phase with
  | .idle => q
  | .refresh =>
    if refreshGoesOn hostv q.sub then { q with sub := q.sub + 1 }
    else { q with phase := .reconcile, sub := 0 }
  | .reconcile => enterFrames n
  | .frame => nextMicro n q
  | .publish => if q.sub < 7 then { q with sub := q.sub + 1 } else ⟨.idle, 0, 0, 0⟩

theorem engineStep_seq {s t : State} (h : EngineStep s t) :
    t.seq = seqAfter s.reg.ctrl.hostv s.blk.N.toNat s.seq := by
  unfold seqAfter
  cases h with
  | idle phase idles => rw [phase, idles]
  | refresh phase reads => simp only [refreshStep_seq reads, phase]
  | reconcile phase u runs moves =>
    obtain ⟨-, hblk⟩ := exec_sequencer (.inl rfl) runs
    rw [phase, moves]
    simp only [finish, hblk]
  | frameOp phase i listed u runs moves =>
    obtain ⟨hseq, hblk⟩ := exec_sequencer (.inr listed) runs
    rw [phase, moves]
    simp only [finish, hseq, hblk, microPrelude_seq, microPrelude_blk]
  | frameSkip phase moves =>
    rw [phase, moves]
    simp only [finish, microPrelude_seq, microPrelude_blk]
  | publish phase writes => simp only [writes, publishStep_seq, phase]

/-! ### How a bus command moves it -/

theorem construct_seq {s t : State} (h : construct s = .next t) : t.seq = ⟨.idle, 0, 0, 0⟩ := by
  obtain ⟨-, rfl⟩ := construct_eq_next s t h
  simp only [constructTail, scaleRebuild_seq, timingRecompute_seq, seedRng_seq]
  rfl

/-- A bus command leaves the position, or starts a block, or constructs, the latter two while BUSY is 0. -/
theorem busStep_seq {s t : State} (h : BusStep s t) :
    t.seq = s.seq ∨ (t.seq = ⟨.refresh, 0, 0, 0⟩ ∧ s.reg.ctrl.busy = false) ∨
      (t.seq = ⟨.idle, 0, 0, 0⟩ ∧ s.reg.ctrl.busy = false) := by
  cases h with
  | read w answers => subst answers; exact .inl rfl
  | write stores _ => rw [stores]; exact .inl rfl
  | clearCount _ clears => subst clears; exact .inl rfl
  | refusedWrite c refuses => subst refuses; exact .inl rfl
  | refusedRead c refuses => subst refuses; exact .inl rfl
  | start n idle _ starts => subst starts; exact .inr (.inl ⟨rfl, idle⟩)
  | construct idle constructs => exact .inr (.inr ⟨construct_seq constructs, idle⟩)

/-- BUSY is 0 only in IDLE (R25). -/
theorem phase_idle_of_not_busy {s : State} (hs : Inv s) (h : s.reg.ctrl.busy = false) :
    s.seq.phase = .idle := by
  by_contra hphase
  exact Bool.false_ne_true (h.symm.trans (hs.busy.2 hphase))

theorem engineStep_idle {s t : State} (h : EngineStep s t) (hphase : s.seq.phase = .idle) : t = s := by
  cases h with
  | idle _ idles => exact idles
  | refresh phase | reconcile phase | frameOp phase | frameSkip phase | publish phase =>
    exact nomatch hphase.symm.trans phase

/-- Settles O19: an engine step moves the position to `seqAfter`, which the legal position makes R166's. -/
theorem sequencerFollowsTheBlockPhases : Obligations.SequencerFollowsTheBlockPhases := by
  intro s t hs h
  obtain ⟨hnext, hstep⟩ | ⟨hnext, hstep⟩ := step_cases hs.port h
  · refine ⟨fun _ => ?_, fun hn => absurd hnext hn⟩
    have hpos := hs.position
    have hseq := engineStep_seq hstep
    simp only [popped_seq, popped_blk, popped_reg, seqAfter] at hseq
    unfold positionLegal at hpos
    split
    case h_1 hphase => exact engineStep_idle hstep hphase
    case h_2 hphase =>
      simp only [hphase] at hpos hseq
      obtain ⟨-, hi, hk, -⟩ := hpos
      rw [hi, hk] at hseq
      split <;> rename_i hgo
      · rw [hseq, if_pos hgo]
      · rw [hseq, if_neg hgo]
    case h_3 hphase =>
      simp only [hphase] at hpos hseq
      obtain ⟨hn, -⟩ := hpos
      exact hseq.trans (if_pos hn)
    case h_4 hphase =>
      simp only [hphase, nextMicro] at hseq
      rw [hseq]
      split_ifs <;> exact ⟨rfl, rfl, rfl⟩
    case h_5 hphase =>
      simp only [hphase] at hseq
      rw [hseq]
      split_ifs
      · exact ⟨rfl, rfl⟩
      · rfl
  · refine ⟨fun hn => absurd hn hnext, fun _ => ?_⟩
    obtain hseq | ⟨hseq, hidle⟩ | ⟨hseq, hidle⟩ := busStep_seq hstep
    · exact .inl hseq
    · exact .inr (.inl ⟨hseq, phase_idle_of_not_busy hs hidle⟩)
    · exact .inr (.inr ⟨hseq, phase_idle_of_not_busy hs hidle⟩)

end Sys2Proof.Machine

end

section
/-! The parts of the invariant, and the engine's operations that keep them. -/

namespace Sys2Proof.Machine

/-! ### What the invariant reads -/

/-- The parts of the state that the invariant speaks of. -/
def invView (s : State) :=
  (s.reg, s.cfg, s.sh, s.recon.lastScale, s.walk, s.seq, s.blk, s.mem, s.sched)

theorem inv_of_invView_eq {s t : State} (hs : Inv s) (h : invView t = invView s) : Inv t := by
  simp only [invView, Prod.mk.injEq] at h
  obtain ⟨hreg, hcfg, hsh, hscale, hwalk, hseq, hblk, hmem, hsched⟩ := h
  constructor <;> simp only [hreg, hcfg, hsh, hscale, hwalk, hseq, hblk, hmem, hsched]
  exacts [hs.memory, hs.causeClear, hs.causeLegal, hs.motion, hs.rate, hs.chan, hs.fs, hs.shDensity,
    hs.shBrightness, hs.shMotion, hs.shBpm, hs.table, hs.length, hs.index, hs.busy, hs.base, hs.position,
    hs.port]

/-! ### Its parts changed one at a time -/

theorem inv_popped {s : State} (hs : Inv s) : Inv (popped s) :=
  { hs with port := fun op hop => hs.port op (List.mem_of_mem_tail hop) }

theorem inv_with_mem {s : State} (hs : Inv s) {m : Memory} (hm : Memory.wf m = true) :
    Inv { s with mem := m } :=
  { hs with memory := hm }

theorem inv_with_walk {s : State} (hs : Inv s) {w : Walk} (htable : w.tbl = s.walk.tbl)
    (hlen : w.len = s.walk.len) (hidx : w.idx < s.walk.len) : Inv { s with walk := w } :=
  { hs with
    table := htable.trans hs.table
    length := by rw [hlen, htable]; exact hs.length
    index := by rw [hlen]; exact hidx }

/-- A register block that may follow another one while BUSY stays: its CTRL fields are legal, and MOTION is in
[0, 1] (R25, R31, R233). -/
structure RegsFollow (g g' : Regs) : Prop where
  busy : g'.ctrl.busy = g.ctrl.busy
  causeClear : g'.ctrl.buserr = false → g'.ctrl.errcause = 0#3
  causeLegal : g'.ctrl.errcause.toNat ≤ 5
  motion : inUnit g'.motion = true

theorem inv_with_reg {s : State} (hs : Inv s) {g : Regs} (hg : RegsFollow s.reg g) :
    Inv { s with reg := g } :=
  { hs with
    causeClear := hg.causeClear
    causeLegal := hg.causeLegal
    motion := hg.motion
    busy := by rw [hg.busy]; exact hs.busy }

/-- The sequencer moves between legal positions of a running block. -/
theorem inv_with_seq {s : State} (hs : Inv s) {q : Seq} (hrun : s.seq.phase ≠ .idle)
    (hq : q.phase ≠ .idle) (hpos : positionLegal s.blk.N.toNat q) : Inv { s with seq := q } :=
  { hs with
    busy := ⟨fun _ => hq, fun _ => hs.busy.2 hrun⟩
    position := hpos }

/-! ### The sequencer's positions -/

/-- An engine step moves from a legal position to a legal one. -/
theorem seqAfter_legal {hostv : Bool} {n : Nat} {q : Seq} (h : positionLegal n q) :
    positionLegal n (seqAfter hostv n q) := by
  obtain ⟨phase, i, k, sub⟩ := q
  cases phase with
  | idle => exact h
  | refresh =>
    obtain ⟨hn, hi, hk, hsub⟩ := h
    unfold seqAfter
    dsimp only
    split
    · rename_i hgo
      exact ⟨hn, hi, hk, hgo.1⟩
    · exact ⟨hn, hi, hk, rfl⟩
  | reconcile =>
    obtain ⟨hn, -⟩ := h
    simp only [seqAfter, enterFrames, if_pos hn]
    exact ⟨hn, le_rfl, Nat.one_le_ofNat⟩
  | frame =>
    obtain ⟨hi, hk1, hk12⟩ := h
    dsimp only at hi hk1 hk12
    simp only [seqAfter, nextMicro]
    split_ifs with hk hlast
    · exact ⟨hi, Nat.le_add_left 1 k, hk⟩
    · exact ⟨hlast, le_rfl, Nat.one_le_ofNat⟩
    · exact ⟨by omega, Nat.zero_le _⟩
  | publish =>
    obtain ⟨hn, hsub⟩ := h
    simp only [seqAfter]
    split_ifs with hlt
    · exact ⟨hn, hlt⟩
    · exact ⟨rfl, rfl, rfl⟩

/-- A block ends only in PUBLISH, after its seven meter writes (R166, R176). -/
theorem seqAfter_phase_ne_idle {hostv : Bool} {n : Nat} {q : Seq} (hq : q.phase ≠ .idle)
    (hlast : q.phase = .publish → q.sub < 7) : (seqAfter hostv n q).phase ≠ .idle := by
  obtain ⟨phase, i, k, sub⟩ := q
  cases phase with
  | idle => exact absurd rfl hq
  | refresh => simp only [seqAfter]; split_ifs <;> simp
  | reconcile => simp only [seqAfter, enterFrames]; split_ifs <;> simp
  | frame => simp only [seqAfter, nextMicro]; split_ifs <;> simp
  | publish => simp [seqAfter, hlast rfl]

/-! ### The engine's operations -/

theorem inv_refreshRead {s : State} (n : Nat) (hs : Inv s) : Inv (refreshRead n s) := by
  obtain ⟨acc, refr, h⟩ := refreshRead_frame n s
  rw [h]
  exact inv_of_invView_eq hs rfl

/-- The shadow update clamps what it stores and refuses a NaN (R167, R236). -/
theorem inv_refreshApply {s t : State} (hs : Inv s) (h : refreshApply s = .next t) : Inv t := by
  obtain ⟨hnan, rfl⟩ := refreshApply_eq_next s t h
  obtain ⟨ht, hd, hbb, hm⟩ := firstNaN_eq_none _ _ _ _ hnan
  have hsh : Inv { s with sh := shadowOf s.refr } :=
    { hs with
      shDensity := inUnit_clampUnit _ hd
      shBrightness := inUnit_clampUnit _ hbb
      shMotion := inUnit_clampUnit _ hm
      shBpm := ht }
  split <;> exact inv_of_invView_eq hsh rfl

theorem inv_reconcileTiming {s : State} (hs : Inv s) : Inv (reconcileTiming s) := by
  unfold reconcileTiming
  split
  · exact inv_of_invView_eq hs (by simp [invView])
  · exact hs

/-- The scale half of RECONCILE sets the table and the selector together (R43, R47, R168). -/
theorem inv_reconcileScale {s : State} (hs : Inv s) : Inv (reconcileScale s) := by
  unfold reconcileScale
  split
  · obtain ⟨htable, hlen, hidx⟩ := scaleRebuild_walk s.sh.scale s
    have hnew : Inv { s with
        walk := (scaleRebuild s.sh.scale s).walk, recon := { s.recon with lastScale := s.sh.scale } } :=
      { hs with
        table := htable
        length := by rw [hlen, htable]
        index := by rw [hlen]; exact hidx }
    exact inv_of_invView_eq hnew (by simp [invView])
  · exact hs

theorem inv_walkerAdvance {s : State} (hs : Inv s) : Inv (walkerAdvance s) := by
  obtain ⟨htable, hlen, hidx⟩ := walkerAdvance_walk s (Nat.zero_lt_of_lt hs.index)
  exact inv_of_invView_eq (inv_with_walk hs htable hlen hidx) (by simp [invView])

/-- The frame's words go below 2^32, where FRAME_WRITE answers (R70, R174). -/
theorem inv_frameWrite {s t : State} (hs : Inv s) (h : execFrameWrite s = .next t) : Inv t := by
  obtain ⟨hfit, rfl⟩ := execFrameWrite_eq_next s t h
  have hchan := hs.chan
  have hpos : 1 ≤ s.cfg.C.toNat := by
    rw [BitVec.toInt_eq_toNat_cond] at hchan
    split at hchan <;> omega
  unfold frameWords at hfit
  refine inv_with_mem hs ?_
  have hleft : Memory.wf (Memory.writeWord s.mem (frameAddr s) s.mix.yL) = true :=
    Memory.writeWord_wf _ _ _ hs.memory (by omega)
  unfold frameMem
  dsimp only
  split
  · exact Memory.writeWord_wf _ _ _ hleft (by omega)
  · exact hleft

/-- The other micro-operations of a frame leave alone what the invariant reads. -/
theorem invView_exec_frameOp {i : Instr} {s t : State} (hi : i ∈ frameOps) (harp : i ≠ .arpTrigger)
    (hwrite : i ≠ .frameWrite) (h : exec i s = .next t) : invView t = invView s := by
  have hne : ∀ {j}, j ∉ frameOps → i ≠ j := fun hj => ne_of_mem_of_not_mem hi hj
  have hk := exec_keepsGroups h (not_constructs_of_mem_frameOps hi)
  obtain ⟨hseq, hblk⟩ := exec_sequencer (.inr hi) h
  obtain ⟨hsh, -⟩ := hk.shadow (hne (by decide))
  have hreg := hk.reg (hne (by decide)) (ne_readOf_of_mem_frameOps hi) (ne_writeOf_of_mem_frameOps hi)
  have hwalk := hk.walk (by
    simp only [List.mem_cons, List.not_mem_nil, or_false, not_or]
    exact ⟨hne (by decide), hne (by decide), harp, hne (by decide)⟩)
  simp only [invView, hk.cfg, hk.recon (hne (by decide)), hk.mem hwrite, hsh, hseq, hblk, hreg, hwalk,
    exec_sched i s t h]

theorem inv_exec_frameOp {i : Instr} {s t : State} (hs : Inv s) (hi : i ∈ frameOps)
    (h : exec i s = .next t) : Inv t := by
  by_cases harp : i = .arpTrigger
  · subst harp
    obtain ⟨x, rfl⟩ := execArpTrigger_frame h
    exact inv_of_invView_eq (inv_walkerAdvance hs) rfl
  · by_cases hwrite : i = .frameWrite
    · subst hwrite
      exact inv_frameWrite hs h
    · exact inv_of_invView_eq hs (invView_exec_frameOp hi harp hwrite h)

theorem inv_microPrelude {s : State} (hs : Inv s) : Inv (microPrelude s) := by
  refine inv_of_invView_eq hs ?_
  unfold microPrelude
  split <;> rfl

end Sys2Proof.Machine

end

section
/-! Every step keeps the invariant. -/

namespace Sys2Proof.Machine

/-! ### Engine steps -/

/-- An engine step is an operation that keeps the invariant, followed by a move of the sequencer; an idle
turn, and the last step of PUBLISH, which also ends the block, are left out. -/
theorem engineStep_split {s t : State} (hs : Inv s) (h : EngineStep s t) (hrun : s.seq.phase ≠ .idle)
    (hlast : s.seq.phase = .publish → s.seq.sub < 7) :
    ∃ u, Inv u ∧ u.seq = s.seq ∧ u.blk = s.blk ∧ t = { u with seq := t.seq } := by
  cases h with
  | idle phase => exact absurd phase hrun
  | refresh phase reads =>
    have hread := inv_refreshRead s.seq.sub hs
    obtain ⟨acc, refr, hframe⟩ := refreshRead_frame s.seq.sub s
    obtain ⟨-, rfl⟩ | ⟨-, u, rfl, rfl | happly⟩ := refreshStep_cases reads
    · exact ⟨_, hread, by rw [hframe], by rw [hframe], rfl⟩
    · exact ⟨_, hread, by rw [hframe], by rw [hframe], rfl⟩
    · have hu := inv_refreshApply hread happly
      obtain ⟨sh, rng, rfl⟩ := refreshApply_frame happly
      exact ⟨_, hu, by rw [hframe], by rw [hframe], rfl⟩
  | reconcile phase u runs moves =>
    obtain ⟨hseq, hblk⟩ := exec_sequencer (.inl rfl) runs
    cases runs
    exact ⟨_, inv_reconcileScale (inv_reconcileTiming hs), hseq, hblk, by rw [moves]; rfl⟩
  | frameOp phase i listed u runs moves =>
    obtain ⟨hseq, hblk⟩ := exec_sequencer (.inr listed) runs
    exact ⟨u, inv_exec_frameOp (inv_microPrelude hs) listed runs, hseq.trans (microPrelude_seq s),
      hblk.trans (microPrelude_blk s), by rw [moves]; rfl⟩
  | frameSkip phase moves =>
    exact ⟨_, inv_microPrelude hs, microPrelude_seq s, microPrelude_blk s, by rw [moves]; rfl⟩
  | publish phase writes =>
    refine ⟨publishMeter s.seq.sub s, inv_of_invView_eq hs rfl, rfl, rfl, ?_⟩
    rw [writes, publishStep, if_pos (hlast phase)]

/-- The end of the block clears BUSY as the position becomes IDLE (R72, R176). -/
theorem inv_publishEnd {s : State} (hs : Inv s) :
    Inv { publishDone s with seq := { phase := .idle, i := 0, k := 0, sub := 0 } } :=
  { hs with
    busy := by simp
    position := ⟨rfl, rfl, rfl⟩ }

theorem engineStep_inv {s t : State} (hs : Inv s) (h : EngineStep s t) : Inv t := by
  by_cases hidle : s.seq.phase = .idle
  · rw [engineStep_idle h hidle]
    exact hs
  · by_cases hlast : s.seq.phase = .publish → s.seq.sub < 7
    · obtain ⟨u, hu, hseq, hblk, ht⟩ := engineStep_split hs h hidle hlast
      have hmove := engineStep_seq h
      rw [ht]
      refine inv_with_seq hu (by rwa [hseq]) ?_ ?_
      · rw [hmove]
        exact seqAfter_phase_ne_idle hidle hlast
      · rw [hmove, hblk]
        exact seqAfter_legal hs.position
    · obtain ⟨hphase, hsub⟩ := Classical.not_imp.1 hlast
      have ht : t = publishStep s := by
        cases h with
        | publish _ writes => exact writes
        | idle phase | refresh phase | reconcile phase | frameOp phase | frameSkip phase =>
          exact nomatch hphase.symm.trans phase
      rw [ht, publishStep, if_neg hsub]
      exact inv_publishEnd hs

/-! ### Bus commands -/

theorem regsFollow_of_plainWrite {s : State} (hs : Inv s) {g : Regs} (h : PlainWrite s.reg g) :
    RegsFollow s.reg g where
  busy := h.busy
  causeClear := by
    obtain ⟨herr, hcause⟩ | ⟨-, hcause⟩ := h.error
    · rw [herr, hcause]
      exact hs.causeClear
    · exact fun _ => hcause
  causeLegal := by
    obtain ⟨-, hcause⟩ | ⟨-, hcause⟩ := h.error
    · rw [hcause]
      exact hs.causeLegal
    · rw [hcause]
      decide
  motion := by
    obtain hmotion | hmotion := h.motion
    · rw [hmotion]
      exact hs.motion
    · exact hmotion

theorem busCause_code_le (c : BusCause) : c.code.toNat ≤ 5 := by
  cases c <;> decide

/-- A refusal keeps the first cause of a legal error record (R187, R234). -/
theorem inv_busRefuse {s : State} (hs : Inv s) (c : BusCause) : Inv (busRefuse c s) := by
  refine inv_with_reg hs (g := (busRefuse c s).reg) ⟨rfl, ?_, ?_, hs.motion⟩
  · simp
  · simp only [busRefuse_reg]
    split
    · exact hs.causeLegal
    · exact busCause_code_le c

theorem bufBaseWord_aligned (b : BitVec 30) : (bufBaseWord b).toNat % 4 = 0 := by
  have h : (bufBaseWord b).toNat = b.toNat <<< 2 ||| 0 := BitVec.toNat_append b 0#2
  rw [h, Nat.or_zero, Nat.shiftLeft_eq]
  exact Nat.mul_mod_left _ _

/-- A block starts with at least one frame, at an aligned base (R22, R64, R217). -/
theorem inv_startBlock {s : State} (hs : Inv s) {n : Word} (hn : n ≠ 0#32) : Inv (startBlock n s) :=
  have hpos : 0 < n.toNat := by bv_omega
  { hs with
    busy := by simp
    base := bufBaseWord_aligned _
    position := ⟨hpos, rfl, rfl, Nat.zero_le _⟩ }

theorem effectiveRate_pos (d : Word) : 0 < (effectiveRate d).toInt := by
  unfold effectiveRate
  split
  · assumption
  · decide

theorem effectiveChan_pos (d : Word) : 0 < (effectiveChan d).toInt := by
  unfold effectiveChan
  split
  · assumption
  · decide

/-- What the last steps of the construction leave for the invariant to read: the shadow of the registers, the
ROM row of their selector with an index inside it, and BUSY 0 (R255). -/
theorem invView_constructTail (s : State) :
    ∃ w : Walk, w.tbl = scaleRow s.reg.scale ∧ w.len = (scaleRow s.reg.scale).length ∧
      w.idx < (scaleRow s.reg.scale).length ∧
      invView (constructTail s) = invView { s with
        sh := shadowOf (readParams s.reg), walk := w, recon := { s.recon with lastScale := s.reg.scale }
        reg := { s.reg with ctrl := { s.reg.ctrl with busy := false } } } := by
  obtain ⟨htable, hlen, hidx⟩ := scaleRebuild_walk s.reg.scale (timingRecompute s.reg.tempo
    (seedRng s.reg.seed { s with sh := shadowOf (readParams s.reg) }))
  refine ⟨_, htable, hlen, hidx, ?_⟩
  simp only [invView, constructTail, scaleRebuild_reg, scaleRebuild_cfg, scaleRebuild_sh, scaleRebuild_seq,
    scaleRebuild_blk, scaleRebuild_mem, scaleRebuild_sched, timingRecompute_reg, timingRecompute_cfg,
    timingRecompute_sh, timingRecompute_seq, timingRecompute_blk, timingRecompute_mem, timingRecompute_sched]
  rfl

/-- The construction builds a state of the invariant from the registers, the memory and the commands still to
come (R255). -/
theorem inv_construct {s t : State} (hs : Inv s) (h : construct s = .next t) : Inv t := by
  obtain ⟨hnan, rfl⟩ := construct_eq_next s t h
  obtain ⟨ht, hd, hbb, hm⟩ := firstNaN_eq_none _ _ _ _ hnan
  obtain ⟨w, htable, hlen, hidx, hview⟩ := invView_constructTail (zeroDatapath s)
  refine inv_of_invView_eq ?_ hview
  exact
    { memory := hs.memory
      causeClear := hs.causeClear
      causeLegal := hs.causeLegal
      motion := hs.motion
      rate := effectiveRate_pos _
      chan := effectiveChan_pos _
      fs := rfl
      shDensity := inUnit_clampUnit _ hd
      shBrightness := inUnit_clampUnit _ hbb
      shMotion := inUnit_clampUnit _ hm
      shBpm := ht
      table := htable
      length := hlen.trans (congrArg List.length htable.symm)
      index := hidx.trans_eq hlen.symm
      busy := by simp [zeroDatapath, State.reset]
      base := rfl
      position := ⟨rfl, rfl, rfl⟩
      port := hs.port }

/-- A bus command keeps the invariant. -/
theorem busStep_inv {s t : State} (hs : Inv s) (h : BusStep s t) : Inv t := by
  cases h with
  | read w answers => exact inv_of_invView_eq hs (by rw [answers]; rfl)
  | write stores plain =>
    rw [stores]
    exact inv_with_reg hs (regsFollow_of_plainWrite hs plain)
  | clearCount _ clears =>
    rw [clears]
    exact inv_with_reg hs ⟨rfl, hs.causeClear, hs.causeLegal, hs.motion⟩
  | refusedWrite c refuses =>
    rw [refuses]
    exact inv_busRefuse hs c
  | refusedRead c refuses => exact inv_of_invView_eq (inv_busRefuse hs c) (by rw [refuses]; rfl)
  | start n _ some starts =>
    rw [starts]
    exact inv_startBlock hs some
  | construct _ constructs => exact inv_construct hs constructs

/-- Settles O23: a step is an engine step or a bus command from the state without the event it takes, and each
keeps the invariant. -/
theorem stepKeepsInvariant : Obligations.StepKeepsInvariant := by
  intro s t hs h
  obtain ⟨-, hstep⟩ | ⟨-, hstep⟩ := step_cases hs.port h
  · exact engineStep_inv (inv_popped hs) hstep
  · exact busStep_inv (inv_popped hs) hstep

end Sys2Proof.Machine

end

section
/-! Host memory has one writer, FRAME_WRITE (R70): the construction zeroes the engine's elements and not host
memory (R252), and every other instruction has memory among the groups it keeps. -/

namespace Sys2Proof.Machine

theorem construct_mem {s t : State} (h : construct s = .next t) : t.mem = s.mem := by
  obtain ⟨-, rfl⟩ := construct_eq_next s t h
  simp only [constructTail, scaleRebuild_mem, timingRecompute_mem, seedRng_mem]
  rfl

/-- The two instructions that run the construction keep host memory; WR RESET keeps it refused too. -/
theorem exec_mem_of_constructs {i : Instr} {s t : State} (hc : constructs i) (h : exec i s = .next t) :
    t.mem = s.mem := by
  obtain rfl | ⟨d, rfl⟩ := hc
  · exact construct_mem h
  · obtain ⟨-, hrefused⟩ | ⟨-, hconstruct⟩ := execWrReset_cases d s
    · cases hrefused.symm.trans h
      exact busRefuse_mem .resetWhileBusy s
    · exact construct_mem (hconstruct.symm.trans h)

theorem exec_mem {i : Instr} {s t : State} (hi : i ≠ .frameWrite) (h : exec i s = .next t) :
    t.mem = s.mem := by
  by_cases hc : constructs i
  · exact exec_mem_of_constructs hc h
  · exact (exec_keepsGroups h hc).mem hi

/-- Settles O46: host memory as a whole is unchanged, so every address reads as before. -/
theorem onlyFrameWriteTouchesMemory : Obligations.OnlyFrameWriteTouchesMemory := by
  intro i s t hi h a
  rw [exec_mem hi h]

end Sys2Proof.Machine

end

section
/-! The code formats: what each decoder accepts, and with which cause it rejects the rest (R81 to R90,
R187). -/

namespace Sys2Proof.Machine

/-! ### HB16 command words -/

/-- A command word with RSV 000 is its W bit and its address (R81). -/
theorem cmd_eq_append {cmd : BitVec 16} (hrsv : cmdRsv cmd = 0#3) :
    cmd = (if cmdW cmd then 8#4 else 0#4) ++ cmdAddr cmd := by
  have hrsv' : cmd.toNat / 4096 % 8 = 0 := by
    simpa [cmdRsv, Nat.shiftRight_eq_div_pow] using congrArg BitVec.toNat hrsv
  have hw : cmdW cmd = decide (32768 ≤ cmd.toNat) := BitVec.msb_eq_decide cmd
  have haddr : (cmdAddr cmd).toNat = cmd.toNat % 4096 := by simp [cmdAddr]
  apply BitVec.eq_of_toNat_eq
  rw [BitVec.toNat_append, ← Nat.shiftLeft_add_eq_or_of_lt (cmdAddr cmd).isLt, Nat.shiftLeft_eq, haddr, hw]
  have hlt := cmd.isLt
  by_cases hbit : 32768 ≤ cmd.toNat <;> simp [hbit] <;> omega

theorem cmdAddr_extractLsb' (cmd : BitVec 16) : (cmdAddr cmd).extractLsb' 0 2 = cmd.extractLsb' 0 2 := by
  apply BitVec.eq_of_toNat_eq
  simp [cmdAddr]

/-- The register at an address is the one with that offset (R84). -/
theorem regAt_eq_some_iff {a : BitVec 12} {r : Reg} : regAt a = some r ↔ r.offset = a := by
  constructor
  · intro h
    unfold regAt at h
    have hbeq := List.find?_some h
    exact eq_of_beq hbeq
  · rintro rfl
    cases r <;> rfl

theorem offset_aligned (r : Reg) : r.offset.extractLsb' 0 2 = 0#2 := by cases r <;> rfl

theorem offset_le (r : Reg) : r.offset.toNat ≤ 0x058 := by cases r <;> decide

/-- Every aligned address up to the last register's has a register (R24, R69). -/
theorem exists_offset_eq {a : BitVec 12} (halign : a.extractLsb' 0 2 = 0#2) (hmap : a.toNat ≤ 0x058) :
    ∃ r : Reg, r.offset = a := by
  have hword : a.toNat % 4 = 0 := by simpa using congrArg BitVec.toNat halign
  have hrows : ∀ q : Fin 23, (regAt (BitVec.ofNat 12 (4 * q))).isSome = true := by decide
  have ha : BitVec.ofNat 12 (4 * (a.toNat / 4)) = a := by
    rw [Nat.mul_div_cancel' (Nat.dvd_of_mod_eq_zero hword), BitVec.ofNat_toNat, BitVec.setWidth_eq]
  obtain ⟨r, hr⟩ := Option.isSome_iff_exists.1 (hrows ⟨a.toNat / 4, by omega⟩)
  exact ⟨r, (regAt_eq_some_iff.1 hr).trans ha⟩

/-- A command of a register decodes to its read or its write. -/
theorem decodeHB16_eq_ok_iff {cmd : BitVec 16} {d : Word} {i : Instr} :
    decodeHB16 cmd d = .ok i ↔
      cmdRsv cmd = 0#3 ∧ ∃ r : Reg, r.offset = cmdAddr cmd ∧
        i = if cmdW cmd then writeOf r d else readOf r := by
  unfold decodeHB16
  split
  · rename_i hrsv
    exact ⟨nofun, fun ⟨h, _⟩ => absurd h hrsv⟩
  · rename_i hrsv
    split
    · rename_i halign
      exact ⟨nofun, fun ⟨_, r, hr, _⟩ => absurd (hr ▸ offset_aligned r) halign⟩
    · split
      · rename_i hnone
        refine ⟨nofun, fun ⟨_, r, hr, _⟩ => ?_⟩
        cases hnone.symm.trans (regAt_eq_some_iff.2 hr)
      · rename_i r hr
        constructor
        · rintro h
          cases h
          exact ⟨not_not.1 hrsv, r, regAt_eq_some_iff.1 hr, rfl⟩
        · rintro ⟨-, r', hr', rfl⟩
          cases hr.symm.trans (regAt_eq_some_iff.2 hr')
          rfl

theorem encode_readOf (r : Reg) : encode (readOf r) = readCode r := by cases r <;> rfl

theorem encode_writeOf (r : Reg) (d : Word) : encode (writeOf r d) = writeCode r d := by cases r <;> rfl

theorem encode_of_decodeHB16 {cmd : BitVec 16} {d : Word} {i : Instr} (h : decodeHB16 cmd d = .ok i) :
    encode i = .hb16 cmd (if cmdW cmd then d else 0#32) := by
  obtain ⟨hrsv, r, hr, rfl⟩ := decodeHB16_eq_ok_iff.1 h
  have hcmd := cmd_eq_append hrsv
  rw [← hr] at hcmd
  cases hw : cmdW cmd <;> rw [hw] at hcmd
  · exact (encode_readOf r).trans (congrArg (Code.hb16 · 0#32) hcmd.symm)
  · exact (encode_writeOf r d).trans (congrArg (Code.hb16 · d) hcmd.symm)

/-! ### UOP codes -/

theorem decodeUop_eq_ok_iff {op : BitVec 8} {i : Instr} : decodeUop op = .ok i ↔ encode i = .uop op := by
  have hrows : ∀ e ∈ uopTable, encode e.2 = .uop e.1 := by decide
  constructor
  · intro h
    unfold decodeUop at h
    split at h
    · cases h
    · rename_i e he
      cases h
      have hop := List.find?_some he
      rw [hrows e (List.mem_of_find?_eq_some he), eq_of_beq hop]
  · intro h
    have hdec := decode_encode i
    rwa [h] at hdec

/-- The predicate of R87's codes lists the table's. -/
theorem uopListed_eq_isSome (op : BitVec 8) :
    uopListed op = (uopTable.find? fun e => e.1 == op).isSome := by
  revert op
  decide

theorem uopListed_iff (op : BitVec 8) : uopListed op = true ↔ ∃ i, decodeUop op = .ok i := by
  rw [uopListed_eq_isSome, decodeUop]
  cases uopTable.find? fun e => e.1 == op <;> simp

theorem decodeUop_reserved {op : BitVec 8} (h : uopListed op = false) :
    decodeUop op = .error (.reservedUop op) := by
  rw [uopListed_eq_isSome, Option.isSome_eq_false_iff, Option.isNone_iff_eq_none] at h
  rw [decodeUop, h]

/-- Settles O15: each format's decoder accepts only the codes that the encoder writes, and an instruction is
recovered from its code, which makes the encoder injective. -/
theorem decodeAndEncodeAgree : Obligations.DecodeAndEncodeAgree := by
  refine ⟨decode_encode, fun op i h => decodeUop_eq_ok_iff.1 h, fun cmd d i h => encode_of_decodeHB16 h,
    fun i j h => ?_⟩
  have hdec := decode_encode i
  rw [h, decode_encode] at hdec
  exact (Except.ok.inj hdec).symm

/-! ### Well-formed codes -/

theorem wellFormed_hb16_iff (cmd : BitVec 16) (d : Word) :
    (Code.hb16 cmd d).wellFormed = true ↔
      cmdRsv cmd = 0#3 ∧ (cmdAddr cmd).extractLsb' 0 2 = 0#2 ∧ (cmdAddr cmd).toNat ≤ 0x058 := by
  rw [cmdAddr_extractLsb']
  simp only [Code.wellFormed, hb16RsvOk, hb16Aligned, hb16Mapped, Bool.and_eq_true, beq_iff_eq,
    decide_eq_true_eq, and_assoc]
  rfl

/-- The well-formed command words are those of a register (R24, R187). -/
theorem wellFormed_hb16_iff_decodes (cmd : BitVec 16) (d : Word) :
    (Code.hb16 cmd d).wellFormed = true ↔ ∃ i, decodeHB16 cmd d = .ok i := by
  rw [wellFormed_hb16_iff]
  constructor
  · rintro ⟨hrsv, halign, hmap⟩
    obtain ⟨r, hr⟩ := exists_offset_eq halign hmap
    exact ⟨_, decodeHB16_eq_ok_iff.2 ⟨hrsv, r, hr, rfl⟩⟩
  · rintro ⟨i, hi⟩
    obtain ⟨hrsv, r, hr, -⟩ := decodeHB16_eq_ok_iff.1 hi
    rw [← hr]
    exact ⟨hrsv, offset_aligned r, offset_le r⟩

/-- The cause of a rejected command word: the first check of R187 that fails. -/
def rejectCause (cmd : BitVec 16) : BusCause :=
  if cmdRsv cmd ≠ 0#3 then .reservedBits
  else if (cmdAddr cmd).extractLsb' 0 2 ≠ 0#2 then .misaligned
  else .unmapped

theorem decodeHB16_rejects {cmd : BitVec 16} {d : Word} (h : (Code.hb16 cmd d).wellFormed = false) :
    decodeHB16 cmd d = .error (.bus (rejectCause cmd)) := by
  unfold decodeHB16 rejectCause
  by_cases hrsv : cmdRsv cmd ≠ 0#3
  · rw [if_pos hrsv, if_pos hrsv]
  · rw [if_neg hrsv, if_neg hrsv]
    by_cases halign : (cmdAddr cmd).extractLsb' 0 2 ≠ 0#2
    · rw [if_pos halign, if_pos halign]
    · rw [if_neg halign, if_neg halign]
      split
      · rfl
      · rename_i r hr
        have hok := decodeHB16_eq_ok_iff (d := d).2 ⟨not_not.1 hrsv, r, regAt_eq_some_iff.1 hr, rfl⟩
        have hwf := (wellFormed_hb16_iff_decodes cmd d).2 ⟨_, hok⟩
        exact absurd (h.symm.trans hwf) Bool.false_ne_true

/-- Settles O16: a code is well formed exactly when it is the code of a listed operation or of a register, and
the cause of any other command word is its first failing check. -/
theorem wellFormedCodesAreTheDecodableOnes : Obligations.WellFormedCodesAreTheDecodableOnes := by
  refine ⟨fun c => ?_, fun op h => decodeUop_reserved h, fun cmd d h => ⟨_, decodeHB16_rejects h, ?_⟩⟩
  · cases c with
    | hb16 cmd d => exact wellFormed_hb16_iff_decodes cmd d
    | uop op => exact uopListed_iff op
  · rw [← cmdAddr_extractLsb', ← cmdRsv, rejectCause]
    split_ifs with hrsv halign <;> simp_all [BusCause.code]

/-! ### Words of the opcode table -/

theorem decodeTableWord_encode {nbits w : Nat} {i : Instr} (h : codeOfTableWord nbits w = encode i) :
    decodeTableWord nbits w = some i := by
  rw [decodeTableWord, h, decode_encode]

theorem decodeTableWord_eq_none {nbits w : Nat} (h : (codeOfTableWord nbits w).wellFormed = false) :
    decodeTableWord nbits w = none := by
  unfold decodeTableWord
  split
  · rename_i i hi
    have hwf := (wellFormedCodesAreTheDecodableOnes.1 _).2 ⟨i, hi⟩
    exact absurd (h.symm.trans hwf) Bool.false_ne_true
  · rfl

/-- Settles O17: six of the words are the codes of their instructions, and the other two are ill formed. -/
theorem specWordsDecode : Obligations.SpecWordsDecode :=
  ⟨decodeTableWord_encode rfl, decodeTableWord_encode rfl, decodeTableWord_encode rfl,
    decodeTableWord_encode rfl, decodeTableWord_encode rfl, decodeTableWord_encode rfl,
    decodeTableWord_eq_none rfl, decodeTableWord_eq_none rfl⟩

end Sys2Proof.Machine

end

section
/-! The engine turns of a block: how many are left at a position, and what they do to the register block (R74,
R166, R176, R216; the count is the model's reading of R186, logs 20 to 22). -/

namespace Sys2Proof.Machine

/-! ### The turns left at a position -/

/-- The engine turns from a position to the end of its block of n frames. -/
def turnsLeft (hostv : Bool) (n : Nat) (q : Seq) : Nat :=
  match q.phase with
  | .idle => 0
  | .refresh => (if refreshGoesOn hostv q.sub then 9 - q.sub else 1) + 1 + 12 * n + 8
  | .reconcile => 1 + 12 * n + 8
  | .frame => 12 * (n - q.i - 1) + (13 - q.k) + 8
  | .publish => 8 - q.sub

theorem turnsLeft_blockStart (hostv : Bool) (n : Nat) :
    turnsLeft hostv n ⟨.refresh, 0, 0, 0⟩ = blockSteps hostv n := by
  cases hostv <;> simp [turnsLeft, blockSteps]

theorem turnsLeft_pos {hostv : Bool} {n : Nat} {q : Seq} (h : positionLegal n q) (hq : q.phase ≠ .idle) :
    0 < turnsLeft hostv n q := by
  obtain ⟨phase, i, k, sub⟩ := q
  cases phase with
  | idle => exact absurd rfl hq
  | refresh | reconcile | frame => simp [turnsLeft]
  | publish =>
    obtain ⟨-, hsub⟩ := h
    simp only [turnsLeft] at hsub ⊢
    omega

/-- An engine turn of a running block uses up one of the turns left. -/
theorem turnsLeft_seqAfter {hostv : Bool} {n : Nat} {q : Seq} (h : positionLegal n q)
    (hq : q.phase ≠ .idle) : turnsLeft hostv n (seqAfter hostv n q) = turnsLeft hostv n q - 1 := by
  obtain ⟨phase, i, k, sub⟩ := q
  cases phase with
  | idle => exact absurd rfl hq
  | refresh =>
    obtain ⟨-, -, -, hsub⟩ := h
    dsimp only at hsub
    by_cases hgo : refreshGoesOn hostv sub
    · have hnext : ¬ refreshGoesOn hostv (sub + 1) → sub = 7 := fun hstop => by
        by_contra hne
        exact hstop ⟨by have := hgo.1; omega, nofun⟩
      simp only [seqAfter, if_pos hgo, turnsLeft]
      split_ifs with hmore
      · omega
      · have := hnext hmore
        omega
    · simp only [seqAfter, if_neg hgo, turnsLeft]
      omega
  | reconcile =>
    obtain ⟨hn, -⟩ := h
    simp only [seqAfter, enterFrames, if_pos hn, turnsLeft]
    omega
  | frame =>
    obtain ⟨hi, hk1, hk12⟩ := h
    dsimp only at hi hk1 hk12
    simp only [seqAfter, nextMicro]
    split_ifs <;> simp only [turnsLeft] <;> omega
  | publish =>
    obtain ⟨-, hsub⟩ := h
    dsimp only at hsub
    simp only [seqAfter]
    split_ifs <;> simp only [turnsLeft] <;> omega

/-! ### What a turn does to the register block -/

@[simp] theorem microPrelude_reg (s : State) : (microPrelude s).reg = s.reg := by
  unfold microPrelude
  split <;> rfl

/-- Until the block's last turn an engine step leaves the register block and the block parameters alone. -/
theorem engineStep_reg_blk {s t : State} (h : EngineStep s t)
    (hlast : s.seq.phase = .publish → s.seq.sub < 7) :
    t.reg = s.reg ∧ t.blk = s.blk := by
  cases h with
  | idle phase idles => rw [idles]; exact ⟨rfl, rfl⟩
  | refresh phase reads =>
    obtain ⟨acc, refr, hread⟩ := refreshRead_frame s.seq.sub s
    obtain ⟨-, rfl⟩ | ⟨-, u, rfl, rfl | happly⟩ := refreshStep_cases reads
    · rw [hread]; exact ⟨rfl, rfl⟩
    · rw [hread]; exact ⟨rfl, rfl⟩
    · obtain ⟨sh, rng, rfl⟩ := refreshApply_frame happly
      rw [hread]; exact ⟨rfl, rfl⟩
  | reconcile phase u runs moves =>
    obtain ⟨-, hblk⟩ := exec_sequencer (.inl rfl) runs
    have hk := exec_keepsGroups runs (by simp [constructs])
    have hreg := hk.reg (by decide) (fun r => by cases r <;> decide)
      (fun r d => by cases r <;> simp [writeOf])
    rw [moves]
    exact ⟨hreg, hblk⟩
  | frameOp phase i listed u runs moves =>
    obtain ⟨-, hblk⟩ := exec_sequencer (.inr listed) runs
    have hk := exec_keepsGroups runs (not_constructs_of_mem_frameOps listed)
    have hreg := hk.reg (ne_of_mem_of_not_mem listed (by decide)) (ne_readOf_of_mem_frameOps listed)
      (ne_writeOf_of_mem_frameOps listed)
    rw [moves]
    exact ⟨hreg.trans (microPrelude_reg s), hblk.trans (microPrelude_blk s)⟩
  | frameSkip phase moves =>
    rw [moves]
    exact ⟨microPrelude_reg s, microPrelude_blk s⟩
  | publish phase writes =>
    rw [writes, publishStep, if_pos (hlast phase)]
    exact ⟨rfl, rfl⟩

theorem engineStep_publish {s t : State} (h : EngineStep s t) (hphase : s.seq.phase = .publish) :
    t = publishStep s := by
  cases h with
  | publish _ writes => exact writes
  | idle phase | refresh phase | reconcile phase | frameOp phase | frameSkip phase =>
    exact nomatch hphase.symm.trans phase

/-! ### A block among its engine turns -/

/-- The register block once a block of n frames is over (R176). -/
def regsAfterBlock (g : Regs) (n : Word) : Regs :=
  { g with render := n, ctrl := { g.ctrl with busy := false } }

/-- A block of n frames with `left` engine turns to go; g is the register block while it runs. -/
structure Rendering (g : Regs) (n : Word) (left : Nat) (s : State) : Prop where
  inv : Inv s
  running : 0 < left → s.reg = g ∧ s.blk.N = n ∧ turnsLeft g.ctrl.hostv n.toNat s.seq = left
  ended : left = 0 → s.reg = regsAfterBlock g n

theorem Rendering.phase_ne_idle {g : Regs} {n : Word} {left : Nat} {s : State} (h : Rendering g n left s)
    (hleft : 0 < left) : s.seq.phase ≠ .idle := by
  obtain ⟨-, -, hturns⟩ := h.running hleft
  intro hidle
  simp only [turnsLeft, hidle] at hturns
  omega

/-- BUSY is 1 exactly while turns are left (R74). -/
theorem Rendering.busy_iff {g : Regs} {n : Word} {left : Nat} {s : State} (h : Rendering g n left s) :
    s.reg.ctrl.busy = true ↔ 0 < left := by
  constructor
  · intro hbusy
    by_contra hleft
    rw [h.ended (by omega)] at hbusy
    exact Bool.false_ne_true hbusy
  · exact fun hleft => h.inv.busy.2 (h.phase_ne_idle hleft)

theorem Rendering.phase_idle {g : Regs} {n : Word} {s : State} (h : Rendering g n 0 s) :
    s.seq.phase = .idle :=
  phase_idle_of_not_busy h.inv (by rw [h.ended rfl]; rfl)

theorem Rendering.seq_eq {g : Regs} {n : Word} {s : State} (h : Rendering g n 0 s) :
    s.seq = ⟨.idle, 0, 0, 0⟩ := by
  have hphase := h.phase_idle
  have hpos := h.inv.position
  unfold positionLegal at hpos
  rw [hphase] at hpos
  obtain ⟨hi, hk, hsub⟩ := hpos
  rw [show s.seq = ⟨s.seq.phase, s.seq.i, s.seq.k, s.seq.sub⟩ from rfl, hphase, hi, hk, hsub]

/-- The answer to a command is no part of the block's progress. -/
theorem Rendering.answered {g : Regs} {n : Word} {left : Nat} {s : State} (h : Rendering g n left s)
    (w : Word) : Rendering g n left (busReply w s) where
  inv := inv_of_invView_eq h.inv rfl
  running := h.running
  ended := h.ended

theorem Rendering.engineStep {g : Regs} {n : Word} {left : Nat} {s t : State} (h : Rendering g n left s)
    (hstep : EngineStep s t) : Rendering g n (left - 1) t := by
  obtain rfl | hleft := Nat.eq_zero_or_pos left
  · rwa [engineStep_idle hstep h.phase_idle]
  have hrun := h.phase_ne_idle hleft
  obtain ⟨hreg, hblk, hturns⟩ := h.running hleft
  have hpos := h.inv.position
  rw [hblk] at hpos
  have hseq := engineStep_seq hstep
  rw [hreg, hblk] at hseq
  have hnext := turnsLeft_seqAfter (hostv := g.ctrl.hostv) hpos hrun
  rw [← hseq, hturns] at hnext
  refine ⟨engineStep_inv h.inv hstep, fun hmore => ?_, fun hend => ?_⟩
  · have hlast : s.seq.phase = .publish → s.seq.sub < 7 := by
      intro hphase
      simp only [turnsLeft, hphase] at hturns
      omega
    obtain ⟨hreg', hblk'⟩ := engineStep_reg_blk hstep hlast
    exact ⟨hreg'.trans hreg, (congrArg Block.N hblk').trans hblk, hnext⟩
  · have hlast : ¬(s.seq.phase = .publish → s.seq.sub < 7) := by
      intro hlast
      have hphase := seqAfter_phase_ne_idle (hostv := g.ctrl.hostv) (n := n.toNat) hrun hlast
      have hmore := turnsLeft_pos (hostv := g.ctrl.hostv) (seqAfter_legal hpos) hphase
      rw [← hseq] at hmore
      omega
    obtain ⟨hphase, hsub⟩ := Classical.not_imp.1 hlast
    rw [engineStep_publish hstep hphase, publishStep, if_neg hsub]
    simp only [publishDone_reg, hreg, hblk, regsAfterBlock]

/-- An engine turn taken from the serial order is a step of the engine. -/
theorem runEvents_engineTurn {k : Nat} {s t : State}
    (h : runEvents (List.replicate (k + 1) .engine) s = .next t) :
    ∃ u, EngineStep s u ∧ runEvents (List.replicate k .engine) u = .next t := by
  obtain ⟨u, hu, ht⟩ := andThen_eq_next _ _ _ h
  exact ⟨u, engineStep_of_fetchEngine hu, ht⟩

theorem Rendering.engineTurns {g : Regs} {n : Word} {left : Nat} {s t : State} (h : Rendering g n left s)
    (k : Nat) (hturns : runEvents (List.replicate k .engine) s = .next t) : Rendering g n (left - k) t := by
  induction k generalizing s left with
  | zero =>
    cases hturns
    exact h
  | succ k ih =>
    obtain ⟨u, hu, ht⟩ := runEvents_engineTurn hturns
    rw [show left - (k + 1) = left - 1 - k by omega]
    exact ih (h.engineStep hu) ht

theorem runEvents_engine_idle {k : Nat} {s t : State} (hidle : s.seq.phase = .idle)
    (h : runEvents (List.replicate k .engine) s = .next t) : t = s := by
  induction k with
  | zero => cases h; rfl
  | succ k ih =>
    obtain ⟨u, hu, ht⟩ := runEvents_engineTurn h
    rw [engineStep_idle hu hidle] at ht
    exact ih ht

end Sys2Proof.Machine

end

section
/-! RENDERW (R96, R222): the run of its three actions among the engine's turns. -/

namespace Sys2Proof.Machine

/-- WR RENDER n on an idle engine starts a block with all its turns left; a block of no frames is over at once
(R217). -/
theorem exec_wrRender_rendering {n : Word} {s t : State} (hs : Inv s) (hidle : s.reg.ctrl.busy = false)
    (h : exec (.wrRender n) s = .next t) :
    Rendering { s.reg with ctrl := { s.reg.ctrl with busy := true } } n
      (if n = 0#32 then 0 else blockSteps s.reg.ctrl.hostv n.toNat) t := by
  obtain ⟨hbusy, -⟩ | ⟨-, hn, ht⟩ | ⟨-, hn, ht⟩ := execWrRender_cases n s
  · exact absurd (hidle.symm.trans hbusy) Bool.false_ne_true
  · cases ht.symm.trans h
    rw [if_pos hn]
    refine ⟨inv_with_reg hs ⟨rfl, hs.causeClear, hs.causeLegal, hs.motion⟩, nofun, fun _ => ?_⟩
    simp only [regsAfterBlock, hn, ← hidle]
  · cases ht.symm.trans h
    rw [if_neg hn]
    exact ⟨inv_startBlock hs hn, fun _ => ⟨rfl, rfl, turnsLeft_blockStart _ _⟩,
      fun h0 => by simp [blockSteps] at h0⟩

/-- A program ends only by ending its first action: the gap, the action's command, and the rest. -/
theorem runHost_eq_next {gaps : List (List Event)} {o : HostOp} {p : List HostOp} {i : Instr} {s t : State}
    (hcode : decode o.code = .ok i) (h : runHost gaps (o :: p) s = .done (.next t)) :
    ∃ gap rest u v, gaps = gap :: rest ∧ runEvents gap s = .next u ∧ exec i u = .next v ∧
      runHost rest (o.remaining v.rdata p) v = .done (.next t) := by
  cases gaps with
  | nil => cases h
  | cons gap rest =>
    cases hv : runEvents (gap ++ [.code o.code]) s with
    | next v =>
      simp only [runHost, hv] at h
      rw [runEvents_append] at hv
      obtain ⟨u, hu, hexec⟩ := andThen_eq_next _ _ _ hv
      rw [runEvents_code _ i u hcode] at hexec
      exact ⟨gap, rest, u, v, rfl, hu, hexec, h⟩
    | fault e | refused e =>
      simp only [runHost, hv] at h
      cases h

/-- Once polling has ended, RD RENDER answers the frame count, and the engine stays idle. -/
theorem Rendering.readCount {g : Regs} {n : Word} {s t : State} {turns : List Nat} (h : Rendering g n 0 s)
    (hrun : runHost (turns.map fun k => List.replicate k .engine) [.command (encode .rdRender)] s =
      .done (.next t)) :
    t.rdata = n ∧ Rendering g n 0 t := by
  obtain ⟨gap, rest, u, v, hgaps, hgap, hread, hend⟩ := runHost_eq_next (i := .rdRender) rfl hrun
  obtain ⟨k, ks, -, rfl, rfl⟩ := List.map_eq_cons_iff.1 hgaps
  obtain rfl := runEvents_engine_idle h.phase_idle hgap
  cases hread
  cases (runHost_done _ _).symm.trans hend
  exact ⟨congrArg Regs.render (h.ended rfl), h.answered _⟩

/-- The polling of RENDERW ends only once no turn of the block is left (R96). -/
theorem Rendering.poll {g : Regs} {n : Word} {left : Nat} {s t : State} {turns : List Nat}
    (h : Rendering g n left s)
    (hrun : runHost (turns.map fun k => List.replicate k .engine) [.pollIdle, .command (encode .rdRender)] s =
      .done (.next t)) :
    t.rdata = n ∧ Rendering g n 0 t := by
  induction turns generalizing s left with
  | nil => cases hrun
  | cons k ks ih =>
    obtain ⟨gap, rest, u, -, hgaps, hgap, -, -⟩ := runHost_eq_next (i := .rdCtrl) rfl hrun
    cases hgaps
    have hu := h.engineTurns k hgap
    rw [List.map_cons, runHost_pollIdle _ _ _ _ u hgap] at hrun
    split at hrun
    · exact ih (hu.answered _) hrun
    · rename_i hidle
      rw [hu.busy_iff] at hidle
      have hzero : left - k = 0 := by omega
      rw [hzero] at hu
      exact (hu.answered _).readCount hrun

/-- RENDERW n on an idle engine, if it ends, has read n after the block's last turn. -/
theorem renderWait_done {n : Word} {s t : State} {turns : List Nat} (hs : Inv s)
    (hidle : s.reg.ctrl.busy = false)
    (hrun : runHost (turns.map fun k => List.replicate k .engine) (renderWait n) s = .done (.next t)) :
    t.rdata = n ∧ ∃ g, Rendering g n 0 t := by
  obtain ⟨gap, rest, u, v, hgaps, hgap, hwrite, hrest⟩ := runHost_eq_next (i := .wrRender n) rfl hrun
  obtain ⟨k, ks, -, rfl, rfl⟩ := List.map_eq_cons_iff.1 hgaps
  obtain rfl := runEvents_engine_idle (phase_idle_of_not_busy hs hidle) hgap
  obtain ⟨hdata, hend⟩ := (exec_wrRender_rendering hs hidle hwrite).poll hrest
  exact ⟨hdata, _, hend⟩

/-- RENDERW 0 on an engine that is not busy ends at its first poll (R96, R217). -/
theorem renderWait_zero {s : State} (hidle : s.reg.ctrl.busy = false) :
    runHost [[], [], []] (renderWait 0#32) s =
      .done (.next { s with reg := { s.reg with render := 0#32 }, rdata := 0#32 }) := by
  have hwrite : exec (.wrRender 0#32) s = .next { s with reg := { s.reg with render := 0#32 } } := by
    obtain ⟨hbusy, -⟩ | ⟨-, -, h⟩ | ⟨-, hn, -⟩ := execWrRender_cases 0#32 s
    · exact absurd (hidle.symm.trans hbusy) Bool.false_ne_true
    · exact h
    · exact absurd rfl hn
  unfold renderWait
  rw [runHost_command [] _ (.wrRender 0#32) _ _ _ _ rfl hwrite rfl]
  refine (runHost_pollIdle_idle [] _ _ _ _ rfl (by exact hidle)).trans ?_
  rw [runHost_command [] _ .rdRender _ _ _ _ rfl rfl rfl, runHost_done]
  rfl

/-- A run of a block's turns starts with the run of fewer of them. -/
theorem runEvents_engine_of_le {k m : Nat} (hk : k ≤ m) {s u : State}
    (h : runEvents (List.replicate m .engine) s = .next u) :
    ∃ v, runEvents (List.replicate k .engine) s = .next v := by
  rw [← Nat.add_sub_cancel' hk, List.replicate_add, runEvents_append] at h
  obtain ⟨v, hv, -⟩ := andThen_eq_next _ _ _ h
  exact ⟨v, hv⟩

/-- Settles O60: WR RENDER starts a block with `blockSteps` turns left, each engine turn uses up one, and a
poll reads BUSY 1 exactly while one is left. -/
theorem renderWaitReturnsTheFrameCount : Obligations.RenderWaitReturnsTheFrameCount := by
  refine ⟨fun s t n turns hs hidle hrun => ?_, fun s hidle => renderWait_zero hidle,
    fun s u n hs hidle _ hn => ?_⟩
  · obtain ⟨hdata, g, hend⟩ := renderWait_done hs hidle hrun
    have hreg := hend.ended rfl
    exact ⟨hdata, by rw [hreg]; rfl, by rw [hreg]; rfl, hend.seq_eq⟩
  · intro turns last hblock
    rw [← List.singleton_append, runEvents_append, runEvents_code _ (.wrRender n) s rfl] at hblock
    obtain ⟨b, hwrite, hturns⟩ := andThen_eq_next _ _ _ hblock
    have hstart := exec_wrRender_rendering hs hidle hwrite
    rw [if_neg hn] at hstart
    unfold renderWait
    refine ⟨?_, fun k hk => ?_⟩
    · have hend := hstart.engineTurns last hturns
      rw [Nat.sub_self] at hend
      have hreg := hend.ended rfl
      rw [runHost_command [] _ (.wrRender n) _ _ _ _ rfl hwrite rfl,
        runHost_pollIdle_idle _ _ _ _ u hturns (by rw [hreg]; rfl),
        runHost_command [] _ .rdRender _ _ _ _ rfl rfl rfl, runHost_done]
      show HostOutcome.done (.next { u with rdata := u.reg.render }) = _
      rw [hreg]
      rfl
    · obtain ⟨v, hv⟩ := runEvents_engine_of_le hk.le hturns
      have hmid := hstart.engineTurns k hv
      have hbusy := hmid.busy_iff.2 (Nat.sub_pos_of_lt hk)
      obtain ⟨hreg, -⟩ := hmid.running (Nat.sub_pos_of_lt hk)
      refine ⟨busReply (ctrlWord v.reg.ctrl) v, ?_, ?_, ?_⟩
      · rw [runHost_command [] _ (.wrRender n) _ _ _ _ rfl hwrite rfl,
          runHost_pollIdle_busy _ _ _ _ v hv hbusy, runHost_waiting]
      · exact (ctrlWord_busy _).trans hbusy
      · rw [busReply_reg, hreg]

end Sys2Proof.Machine

end

section
/-! The generator: what its three operations answer, and which instructions write it (R101 to R107). -/

namespace Sys2Proof.Machine

/-! ### The three operations -/

theorem exec_rngInit (s : State) : exec .rngInit s = .next (seedRng s.sh.seed s) := rfl

theorem exec_rngFraction (s : State) :
    exec .rngFraction s =
      .next { s with rng := { s.rng with s := (rngFrac s.rng.s).2, u := drawnFraction s } } := rfl

theorem exec_rngIntRange (s : State) :
    exec .rngIntRange s = .next { s with rng := { s.rng with
      s := (intInRange s.rng.s s.rng.lo s.rng.hi).2, n := drawnInt s.rng.lo s.rng.hi s } } := rfl

/-- A drawn fraction lies in [0, 1) (R102). -/
theorem drawnFraction_bounds (s : State) :
    fle 0#32 (drawnFraction s) = true ∧ flt (drawnFraction s) 0x3F800000#32 = true := by
  have hfraction := inFraction_rngFrac s.rng.s
  rwa [inFraction, Bool.and_eq_true, fofInt_one] at hfraction

/-- A draw from a range of one value returns it (R103). -/
theorem drawnInt_self (w : Word) (s : State) : drawnInt w w s = w := by
  obtain ⟨hlo, hhi⟩ := intInRange_bounds s.rng.s w w le_rfl
  exact BitVec.eq_of_toInt_eq (le_antisymm hhi hlo)

/-- Settles O26: each operation's next state, and the bounds of its result. -/
theorem generatorOperationsDraw : Obligations.GeneratorOperationsDraw := by
  refine ⟨exec_rngInit, fun s => ⟨_, exec_rngFraction s, rfl, drawnFraction_bounds s⟩,
    fun s => ⟨_, exec_rngIntRange s, rfl, intInRange_bounds s.rng.s s.rng.lo s.rng.hi, ?_⟩⟩
  intro heq
  show drawnInt s.rng.lo s.rng.hi s = s.rng.lo
  rw [← heq, drawnInt_self]

/-! ### The generator's writers -/

@[simp] theorem setVoice_rng (v : VoiceId) (x : Voice) (s : State) : (s.setVoice v x).rng = s.rng := by
  cases v
  · exact setVoice_arp_rng x s
  · exact setVoice_pad_rng x s

theorem rng_of_plainCommand {i : Instr} {s t : State} (h : exec i s = .next t) (hi : plainCommand i) :
    t.rng = s.rng := by
  obtain ⟨ht, -⟩ := plainCommandsLeaveTheDatapath i s t hi h
  rw [ht]

theorem execWrRender_rng {d : Word} {s t : State} (h : execWrRender d s = .next t) : t.rng = s.rng := by
  obtain ⟨-, ht⟩ | ⟨-, -, ht⟩ | ⟨-, -, ht⟩ := execWrRender_cases d s
  all_goals
    cases ht.symm.trans h
    simp

/-- No unit but the walker and the percussion draws (R107), and nothing but the refresh and the construction
re-seeds; every other instruction keeps the generator. -/
theorem exec_rng {i : Instr} {s t : State} (h : exec i s = .next t) (hc : ¬ constructs i)
    (hi : i ∉ [.rngInit, .rngFraction, .rngIntRange, .scaleRebuild, .walkerAdvance, .paramRefresh,
      .reconcile, .arpTrigger, .percGate, .percStep]) : t.rng = s.rng := by
  cases i with
  | construct => exact absurd (.inl rfl) hc
  | wrReset d => exact absurd (.inr ⟨d, rfl⟩) hc
  | rngInit | rngFraction | rngIntRange | scaleRebuild | walkerAdvance | paramRefresh | reconcile
  | arpTrigger | percGate | percStep => simp at hi
  | wrRender d => exact execWrRender_rng h
  | padTrigger =>
    obtain ⟨x, rfl⟩ := execPadTrigger_frame h
    simp
  | voiceStepArp | voiceStepPad =>
    obtain ⟨x, L, R, rfl⟩ := voiceStep_frame h
    simp
  | voiceTriggerArp | voiceTriggerPad =>
    obtain ⟨x, rfl⟩ := voiceTrigger_frame h
    simp
  | noteFreqArp | noteFreqPad =>
    obtain ⟨x, rfl⟩ := noteFreq_frame h
    simp
  | frameWrite =>
    obtain ⟨-, rfl⟩ := execFrameWrite_eq_next s t h
    rfl
  | meterPublish =>
    cases h
    obtain ⟨meter, hmeters⟩ := publishMeters_frame s
    simp [hmeters]
  | clockTick | timingRecompute | percTrigger | mixDelay | bandFollow | loudnessAccum =>
    cases h
    simp
  | _ => exact rng_of_plainCommand h (And.intro (by decide) (by decide))

/-- Settles O27, as a frame property of each instruction. -/
theorem generatorHasOnlyItsWriters : Obligations.GeneratorHasOnlyItsWriters :=
  fun _ _ _ => exec_rng

end Sys2Proof.Machine

end

section
/-! The walker's two operations: the ROM row and the draw of SCALE_REBUILD, the saturating step of
WALKER_ADVANCE (R111 to R113). -/

namespace Sys2Proof.Machine

/-! ### SCALE_REBUILD -/

/-- Settles O28: no row is empty, so every rebuild loads its row and draws an index of it. -/
theorem scaleRebuildRedrawsTheWalker : Obligations.ScaleRebuildRedrawsTheWalker := by
  intro s
  refine ⟨scaleRow s.sh.scale, rfl, ?_⟩
  have hexec : exec .scaleRebuild s = .next (scaleRebuild s.sh.scale s) := rfl
  rw [hexec, scaleRebuild_eq]
  rfl

/-! ### WALKER_ADVANCE -/

theorem walkerAdvance_of_empty {s : State} (h : s.walk.len = 0) :
    walkerAdvance s = { s with walk := { s.walk with idx := 0 } } := by
  unfold walkerAdvance
  exact if_pos h

theorem walkerAdvance_of_pos {s : State} (h : 0 < s.walk.len) :
    walkerAdvance s = { afterInt (-1#32) 1#32 s with
      walk := { s.walk with idx := walkerStep s.walk (drawnInt (-1#32) 1#32 s).toInt } } := by
  unfold walkerAdvance
  exact if_neg h.ne'

/-- The walker's draw is one of the three steps (R103, R113). -/
theorem drawnInt_step (s : State) :
    (drawnInt (-1#32) 1#32 s).toInt = -1 ∨ (drawnInt (-1#32) 1#32 s).toInt = 0 ∨
      (drawnInt (-1#32) 1#32 s).toInt = 1 := by
  have hlo : (-1#32 : Word).toInt = -1 := by decide
  have hhi : (1#32 : Word).toInt = 1 := by decide
  have hdraw := intInRange_bounds s.rng.s (-1#32) 1#32 (by omega)
  unfold drawnInt
  omega

/-- At the lower edge a step down holds the position. -/
theorem walkerStep_down_at_zero {w : Walk} (h : w.idx = 0) : walkerStep w (-1) = 0 := by
  unfold walkerStep
  omega

/-- At the upper edge a step up holds the position. -/
theorem walkerStep_up_at_last {w : Walk} (hlt : w.idx < w.len) (h : w.idx = w.len - 1) :
    walkerStep w 1 = w.len - 1 := by
  unfold walkerStep
  omega

/-- A step that stays inside the table is taken in full. -/
theorem walkerStep_inside {w : Walk} {d : Int} (hlo : 0 ≤ w.idx + d) (hhi : w.idx + d ≤ w.len - 1) :
    (walkerStep w d : Int) = w.idx + d := by
  unfold walkerStep
  omega

/-- Settles O29: an empty table draws nothing; otherwise the drawn step saturates at both edges. -/
theorem walkerAdvanceSaturates : Obligations.WalkerAdvanceSaturates := by
  intro s
  have hexec : exec .walkerAdvance s = .next (walkerAdvance s) := rfl
  rw [hexec]
  refine ⟨fun hempty => by rw [walkerAdvance_of_empty hempty], fun hpos => ?_⟩
  refine ⟨(drawnInt (-1#32) 1#32 s).toInt, walkerStep s.walk (drawnInt (-1#32) 1#32 s).toInt, rfl,
    drawnInt_step s, ?_, fun hlt => ⟨?_, ?_, walkerStep_inside⟩⟩
  · rw [walkerAdvance_of_pos hpos]
    rfl
  · intro hidx hd
    rw [hd, walkerStep_down_at_zero hidx]
  · intro hidx hd
    rw [hd, walkerStep_up_at_last hlt hidx]

end Sys2Proof.Machine

end

section
/-! The integers that binary32 holds exactly: their units, their order and their sums (R13, R14). -/

namespace Sys2Proof.Machine

/-! ### Rounding a representable value -/

/-- Rounding goes no lower than a representable value that the fraction reaches. -/
theorem le_roundUnits {num den p : Nat} (hden : 0 < den) (hp : p ≤ infMag)
    (h : magUnits p * den ≤ num) : p ≤ roundUnits num den := by
  obtain ⟨hlt, hk⟩ := binadeOf_bounds (num / den)
  rw [Nat.div_div_eq_div_mul] at hlt hk
  have hwhole : min (binadeOf (num / den) * 2 ^ 23 + num / (den * 2 ^ binadeOf (num / den))) infMag ≤
      roundUnits num den := by
    unfold roundUnits
    dsimp only
    rw [← binadeOf]
    refine min_le_min_right _ (Nat.add_le_add_left ?_ _)
    split
    · exact Nat.le_succ _
    · exact le_rfl
  refine le_trans (le_min (le_of_not_gt fun hgt => ?_) hp) hwhole
  generalize binadeOf (num / den) = k at *
  have hnext := magUnits_strictMono.monotone (Nat.succ_le_of_lt hgt)
  rw [Nat.succ_eq_add_one, add_assoc, magUnits_binade k _ hlt (by omega)] at hnext
  have hrest : num < den * 2 ^ k * (num / (den * 2 ^ k) + 1) :=
    Nat.lt_mul_div_succ num (Nat.mul_pos hden (Nat.two_pow_pos k))
  nlinarith

/-- A representable value rounds to itself. -/
theorem roundUnits_magUnits {p : Nat} (hp : p ≤ infMag) : roundUnits (magUnits p) 1 = p :=
  le_antisymm (roundUnits_le _ 1 p Nat.one_pos (by simp)) (le_roundUnits Nat.one_pos hp (by simp))

/-! ### Integers up to 2^24 -/

/-- Scaled into the 24 bits of a significand. -/
theorem exists_significand {n : Nat} (h0 : 0 < n) (h : n ≤ 2 ^ 24) :
    ∃ i ≤ 23, 2 ^ 23 ≤ n * 2 ^ i ∧ n * 2 ^ i ≤ 2 ^ 24 := by
  have hlow : 2 ^ n.log2 ≤ n := Nat.log2_self_le h0.ne'
  have hhigh : n < 2 ^ (n.log2 + 1) := Nat.lt_log2_self
  refine ⟨23 - n.log2, Nat.sub_le _ _, ?_⟩
  rcases Nat.lt_or_ge n.log2 24 with hlt | hge
  · have hup : 2 ^ n.log2 * 2 ^ (23 - n.log2) = 2 ^ 23 := by
      rw [← pow_add, Nat.add_sub_cancel' (Nat.le_of_lt_succ hlt)]
    rw [← hup, show 2 ^ 24 = 2 ^ (n.log2 + 1) * 2 ^ (23 - n.log2) by rw [← pow_add]; congr 1; omega]
    exact ⟨Nat.mul_le_mul_right _ hlow, Nat.mul_le_mul_right _ hhigh.le⟩
  · have hbig : 2 ^ 24 ≤ 2 ^ n.log2 := Nat.pow_le_pow_right Nat.two_pos hge
    rw [Nat.sub_eq_zero_of_le (by omega)]
    omega

/-- An integer of at most 24 bits has a finite pattern (R126's bound on the periods). -/
theorem exists_magUnits_eq {n : Nat} (h : n ≤ 2 ^ 24) :
    ∃ p < infMag, magUnits p = n * 2 ^ 149 := by
  have hinf : infMag = 255 * 2 ^ 23 := rfl
  rcases Nat.eq_zero_or_pos n with rfl | h0
  · exact ⟨0, by omega, by decide⟩
  · obtain ⟨i, hi, hlow, hhigh⟩ := exists_significand h0 h
    refine ⟨(149 - i) * 2 ^ 23 + n * 2 ^ i, by omega, ?_⟩
    rw [magUnits_binade _ _ hhigh (.inr hlow), mul_assoc, ← pow_add]
    congr 2
    omega

/-- The pattern of an integer of at most 24 bits: nothing is lost in rounding. -/
theorem fofInt_eq_packF32 {n : Int} (h : n.natAbs ≤ 2 ^ 24) :
    ∃ p < infMag, magUnits p = n.natAbs * 2 ^ 149 ∧ fofInt n = packF32 (n < 0) p := by
  obtain ⟨p, hp, hunits⟩ := exists_magUnits_eq h
  refine ⟨p, hp, hunits, ?_⟩
  unfold fofInt
  rw [← hunits, roundUnits_magUnits hp.le]

theorem isFinite_fofInt {n : Int} (h : n.natAbs ≤ 2 ^ 24) : isFinite (fofInt n) = true := by
  obtain ⟨p, hp, -, hn⟩ := fofInt_eq_packF32 h
  rw [hn, isFinite_iff, fmag_packF32 _ _ hp.le]
  exact hp

theorem fsign_fofInt {n : Int} (h : n.natAbs ≤ 2 ^ 24) : fsign (fofInt n) = decide (n < 0) := by
  obtain ⟨p, hp, -, hn⟩ := fofInt_eq_packF32 h
  rw [hn, fsign_packF32 _ _ hp.le]

theorem unitsInt_fofInt {n : Int} (h : n.natAbs ≤ 2 ^ 24) : unitsInt (fofInt n) = n * 2 ^ 149 := by
  obtain ⟨p, hp, hunits, hn⟩ := fofInt_eq_packF32 h
  have hmag : (units (fofInt n) : Int) = n.natAbs * 2 ^ 149 := by
    rw [units_eq_magUnits, hn, fmag_packF32 _ _ hp.le, hunits]
    push_cast
    rfl
  unfold unitsInt
  rw [fsign_fofInt h, hmag]
  rcases lt_or_ge n 0 with hneg | hpos
  · rw [if_pos (by simpa using hneg)]
    omega
  · rw [if_neg (by simpa using hpos)]
    omega

/-! ### Order and sums -/

/-- The order of the patterns is the order of their values. -/
theorem fkey_le_fkey_iff (x y : F32) : fkey x ≤ fkey y ↔ unitsInt x ≤ unitsInt y := by
  have hzero (p : Nat) : magUnits p = 0 ↔ p = 0 := magUnits_strictMono.injective.eq_iff' rfl
  have hx := hzero (fmag x)
  have hy := hzero (fmag y)
  have hxy := magUnits_strictMono.le_iff_le (a := fmag x) (b := fmag y)
  have hyx := magUnits_strictMono.le_iff_le (a := fmag y) (b := fmag x)
  simp only [fkey, unitsInt, units_eq_magUnits]
  cases fsign x <;> cases fsign y <;> simp only [Bool.false_eq_true, if_true, if_false] <;> omega

theorem fle_fofInt {a b : Int} (ha : a.natAbs ≤ 2 ^ 24) (hb : b.natAbs ≤ 2 ^ 24) :
    fle (fofInt a) (fofInt b) = true ↔ a ≤ b := by
  rw [fle_iff, fkey_le_fkey_iff, unitsInt_fofInt ha, unitsInt_fofInt hb]
  simp only [isNaN_of_isFinite (isFinite_fofInt ha), isNaN_of_isFinite (isFinite_fofInt hb), true_and]
  omega

/-- One rounding of an exact sum of integers is the conversion of the sum: `fofInt` rounds the same number
of units, and no −0.0 arises unless both operands are negative. -/
theorem addCore_eq_fofInt {x y : F32} {n : Int} (hx : isFinite x = true) (hy : isFinite y = true)
    (hsum : unitsInt x + unitsInt y = n * 2 ^ 149) (hsign : n = 0 → (fsign x && fsign y) = false) :
    addCore x y = fofInt n := by
  unfold addCore
  rw [if_neg (by simp [isInf_of_isFinite hx]), if_neg (by simp [isInf_of_isFinite hy])]
  dsimp only
  rw [hsum]
  rcases eq_or_ne n 0 with rfl | hn
  · rw [if_pos (zero_mul _), hsign rfl, fofInt_zero]
    decide
  · have habs : (n * 2 ^ 149).natAbs = n.natAbs * 2 ^ 149 := by omega
    have hneg : n * 2 ^ 149 < 0 ↔ n < 0 := by omega
    unfold fofInt
    rw [if_neg (by omega), habs, decide_eq_decide.2 hneg]

theorem fadd_fofInt {a b : Int} (ha : a.natAbs ≤ 2 ^ 24) (hb : b.natAbs ≤ 2 ^ 24) :
    fadd (fofInt a) (fofInt b) = fofInt (a + b) := by
  have hfa := isFinite_fofInt ha
  have hfb := isFinite_fofInt hb
  have hcore : addCore (fofInt a) (fofInt b) = fofInt (a + b) := by
    refine addCore_eq_fofInt hfa hfb ?_ fun h0 => ?_
    · rw [unitsInt_fofInt ha, unitsInt_fofInt hb, add_mul]
    · rw [fsign_fofInt ha, fsign_fofInt hb, ← Bool.decide_and, decide_eq_false_iff_not]
      omega
  unfold fadd
  rw [if_neg (by simp [isNaN_of_isFinite hfa, isNaN_of_isFinite hfb, isInf_of_isFinite hfa]), hcore]

theorem fsub_fofInt {a b : Int} (ha : a.natAbs ≤ 2 ^ 24) (hb : b.natAbs ≤ 2 ^ 24) :
    fsub (fofInt a) (fofInt b) = fofInt (a - b) := by
  have hfa := isFinite_fofInt ha
  have hfb := isFinite_fofInt hb
  have hcore : addCore (fofInt a) (fneg (fofInt b)) = fofInt (a - b) := by
    refine addCore_eq_fofInt hfa ((isFinite_fneg _).trans hfb) ?_ fun h0 => ?_
    · rw [unitsInt_fneg, unitsInt_fofInt ha, unitsInt_fofInt hb, ← sub_eq_add_neg, sub_mul]
    · rw [fsign_fneg, sub_eq_zero.1 h0, Bool.and_not_self]
  unfold fsub
  rw [if_neg (by simp [isNaN_of_isFinite hfa, isNaN_of_isFinite hfb, isInf_of_isFinite hfa]), hcore]

end Sys2Proof.Machine

end

section
/-! The rhythmic clock: the periods of a tempo, one tick, and the ticks from 0.0 (R123 to R126). -/

namespace Sys2Proof.Machine

/-! ### TIMING_RECOMPUTE -/

theorem exec_timingRecompute (s : State) :
    exec .timingRecompute s = .next { s with tim := periodsOf s.cfg.fs s.sh.bpm } := rfl

/-- R123's example. -/
theorem periodsOf_reference : periodsOf (fofInt 48000) (fofInt 120) =
    ⟨fofInt 24000, fofInt 6000, fofInt 12000, fofInt 48000⟩ := by decide +kernel

theorem clampBpm_posInf : clampBpm 0x7F800000#32 = clampBpm (fofInt 300) := by decide +kernel

theorem clampBpm_negInf : clampBpm 0xFF800000#32 = clampBpm (fofInt 20) := by decide +kernel

/-- The periods depend on the tempo through its clamp alone. -/
theorem periodsOf_congr {b b' : F32} (h : clampBpm b = clampBpm b') (fs : F32) :
    periodsOf fs b = periodsOf fs b' := by
  unfold periodsOf
  rw [h]

/-- Settles O31. -/
theorem timingRecomputeSetsThePeriods : Obligations.TimingRecomputeSetsThePeriods := by
  refine ⟨fun _ => rfl, ?_, ?_, ?_⟩
  · intro s t hfs hbpm h
    cases (exec_timingRecompute s).symm.trans h
    show periodsOf s.cfg.fs s.sh.bpm = _
    rw [hfs, hbpm, periodsOf_reference]
  · intro s hbpm
    rw [exec_timingRecompute, hbpm, periodsOf_congr clampBpm_posInf]
  · intro s hbpm
    rw [exec_timingRecompute, hbpm, periodsOf_congr clampBpm_negInf]

/-! ### CLOCK_TICK -/

theorem clockTick_clk (s : State) : (clockTick s).clk =
    ⟨counterTick s.clk.c16 s.tim.per16, counterTick s.clk.c8 s.tim.per8,
      counterTick s.clk.cPad s.tim.perPad⟩ := rfl

theorem clockTick_events (s : State) : (clockTick s).ev = { s.ev with
    ev16 := wraps s.clk.c16 s.tim.per16
    ev8 := wraps s.clk.c8 s.tim.per8
    evPad := wraps s.clk.cPad s.tim.perPad } := rfl

/-- Settles O32: the statement names the increment, the comparison and the subtraction of `clockTick`. -/
theorem clockTickWrapsBySubtraction : Obligations.ClockTickWrapsBySubtraction :=
  fun _ => rfl

/-! ### A counter with an integral period -/

/-- The increment of a count below 2^24 is exact. -/
theorem counterUp_fofInt {c : Nat} (h : c < 2 ^ 24) : counterUp (fofInt c) = fofInt (c + 1 : Nat) := by
  unfold counterUp
  rw [fadd_fofInt (by omega) (by omega), Nat.cast_succ]

/-- A period that is an integer of at most 24 bits, so that every count below it is exact. -/
structure IntegralPeriod (per : F32) (p : Nat) : Prop where
  pos : 1 ≤ p
  le : p ≤ 2 ^ 24
  eq : per = fofInt p

/-- A counter wraps on its last count. -/
theorem wraps_iff {per : F32} {p c : Nat} (hp : IntegralPeriod per p) (hc : c < p) :
    wraps (fofInt c) per = true ↔ c + 1 = p := by
  have hle := hp.le
  unfold wraps
  rw [counterUp_fofInt (by omega), hp.eq, fle_fofInt (by omega) (by omega)]
  omega

/-- A counter on its last count returns to 0.0; any other goes up by one. -/
theorem counterTick_fofInt {per : F32} {p c : Nat} (hp : IntegralPeriod per p) (hc : c < p) :
    counterTick (fofInt c) per = fofInt ((c + 1) % p : Nat) := by
  have hle := hp.le
  unfold counterTick
  rw [counterUp_fofInt (by omega)]
  split
  · rename_i hwraps
    obtain rfl := (wraps_iff hp hc).1 hwraps
    rw [hp.eq, fsub_fofInt (by omega) (by omega), sub_self, Nat.mod_self, Nat.cast_zero]
  · rename_i hwraps
    have hlast : c + 1 ≠ p := fun h => hwraps ((wraps_iff hp hc).2 h)
    rw [Nat.mod_eq_of_lt (by omega)]

/-- A counter that holds n modulo its period fires on tick n + 1 where the period divides n + 1. -/
theorem wraps_mod_iff {per : F32} {p : Nat} (hp : IntegralPeriod per p) (n : Nat) :
    wraps (fofInt (n % p : Nat)) per = true ↔ p ∣ n + 1 := by
  have hlt : n % p < p := Nat.mod_lt n hp.pos
  have hdvd : p ∣ n % p + 1 ↔ n % p + 1 = p :=
    ⟨fun h => le_antisymm hlt (Nat.le_of_dvd (Nat.succ_pos _) h), fun h => dvd_of_eq h.symm⟩
  rw [wraps_iff hp hlt, ← hdvd, Nat.dvd_iff_mod_eq_zero, Nat.mod_add_mod, Nat.dvd_iff_mod_eq_zero]

/-- A tick takes a counter from n to n + 1 modulo its period. -/
theorem counterTick_mod {per : F32} {p : Nat} (hp : IntegralPeriod per p) (n : Nat) :
    counterTick (fofInt (n % p : Nat)) per = fofInt ((n + 1) % p : Nat) := by
  rw [counterTick_fofInt hp (Nat.mod_lt n hp.pos), Nat.mod_add_mod]

/-! ### The ticks from 0.0 -/

@[simp] theorem ticks_tim (n : Nat) (s : State) : (ticks n s).tim = s.tim := by
  induction n with
  | zero => rfl
  | succ n ih => rw [ticks, clockTick_tim, ih]

section
variable {s : State} {p16 p8 pPad : Nat} (h16 : IntegralPeriod s.tim.per16 p16)
  (h8 : IntegralPeriod s.tim.per8 p8) (hPad : IntegralPeriod s.tim.perPad pPad)
  (hclk : s.clk = ⟨0#32, 0#32, 0#32⟩) (n : Nat)
include h16 h8 hPad hclk

/-- From 0.0 each counter holds the number of ticks modulo its period. -/
theorem ticks_clk : (ticks n s).clk =
    ⟨fofInt (n % p16 : Nat), fofInt (n % p8 : Nat), fofInt (n % pPad : Nat)⟩ := by
  induction n with
  | zero => simp [ticks, hclk]
  | succ n ih =>
    rw [ticks, clockTick_clk, ticks_tim, ih, counterTick_mod h16, counterTick_mod h8,
      counterTick_mod hPad]

/-- Tick n + 1 fires a counter where its period divides n + 1. -/
theorem ticks_events_iff :
    ((ticks (n + 1) s).ev.ev16 = true ↔ p16 ∣ n + 1) ∧ ((ticks (n + 1) s).ev.ev8 = true ↔ p8 ∣ n + 1) ∧
      ((ticks (n + 1) s).ev.evPad = true ↔ pPad ∣ n + 1) := by
  rw [ticks, clockTick_events, ticks_tim, ticks_clk h16 h8 hPad hclk]
  exact ⟨wraps_mod_iff h16 n, wraps_mod_iff h8 n, wraps_mod_iff hPad n⟩

end

/-- Settles O33: every count is exact, so a counter is the tick's number modulo its period. -/
theorem clockFiresOnMultiplesOfThePeriod : Obligations.ClockFiresOnMultiplesOfThePeriod := by
  intro s p16 p8 pPad hpos16 hle16 hpos8 hle8 hposPad hlePad hper16 hper8 hperPad hclk n hn
  have h16 : IntegralPeriod s.tim.per16 p16 := ⟨hpos16, hle16, hper16⟩
  have h8 : IntegralPeriod s.tim.per8 p8 := ⟨hpos8, hle8, hper8⟩
  have hPad : IntegralPeriod s.tim.perPad pPad := ⟨hposPad, hlePad, hperPad⟩
  obtain ⟨m, rfl⟩ := Nat.exists_eq_add_of_le' hn
  obtain ⟨hev16, hev8, hevPad⟩ := ticks_events_iff h16 h8 hPad hclk m
  exact ⟨hev16, hev8, hevPad, ticks_clk h16 h8 hPad hclk (m + 1)⟩

end Sys2Proof.Machine

end

section
/-! The melodic voices: the frequency of a note, the trigger, one step of a voice, and the two trigger
sequences of the frame (R131 to R137). -/

namespace Sys2Proof.Machine

/-! ### NOTE_FREQ -/

theorem exec_noteFreqOf (v : VoiceId) (s : State) : exec (noteFreqOf v) s = noteFreq v s := by
  cases v <;> rfl

theorem noteFreq_of_finite {v : VoiceId} {s : State}
    (h : isFinite (noteFrequency (noteNumber s v)) = true) :
    noteFreq v s = .next (s.setVoice v { s.voice v with freq := noteFrequency (noteNumber s v) }) :=
  if_pos h

theorem noteFreq_of_not_finite {v : VoiceId} {s : State}
    (h : isFinite (noteFrequency (noteNumber s v)) = false) :
    noteFreq v s = .fault (.freqNotFinite v (noteNumber s v)) :=
  if_neg (Bool.eq_false_iff.1 h)

/-- Settles O34: the sum and the product of the statement are `noteNumber` and `noteFrequency`. -/
theorem noteFreqFollowsTheMidiLaw : Obligations.NoteFreqFollowsTheMidiLaw := by
  intro v s n f hn hf
  obtain rfl : n = noteNumber s v := hn
  obtain rfl : f = noteFrequency (noteNumber s v) := hf
  rw [exec_noteFreqOf]
  exact ⟨noteFreq_of_finite, noteFreq_of_not_finite⟩

/-! ### VOICE_TRIGGER -/

theorem voiceTrigger_arp (s : State) : voiceTrigger .arp s =
    { s with arp := { s.arp with level := 0x3F800000#32, elapsed := 0#32 } } := by
  rw [voiceTrigger, fofInt_one]
  rfl

theorem voiceTrigger_pad (s : State) : voiceTrigger .pad s =
    { s with pad := { s.pad with
      level := 0x3F800000#32, elapsed := 0#32, ph1 := 0#32, ph2 := 0#32 } } := by
  rw [voiceTrigger, fofInt_one]
  rfl

/-- Settles O35. -/
theorem voiceTriggerRestartsTheEnvelope : Obligations.VoiceTriggerRestartsTheEnvelope := by
  intro s
  rw [← voiceTrigger_arp, ← voiceTrigger_pad]
  exact ⟨rfl, rfl⟩

/-! ### VOICE_STEP -/

/-- Settles O36: the lines of R134 are the advanced voice, then its output, then the pan. -/
theorem voiceStepAddsThePannedVoice : Obligations.VoiceStepAddsThePannedVoice := by
  intro v s x c b wrap saw cents f2 ph1 ph2 raw elapsed target rate level k shaped clipped y h
  have hvoice : voiceAdvance s.cfg.fs b (detuneRatio b) c x =
      { ph1 := ph1, ph2 := ph2, freq := x.freq, level := level, elapsed := elapsed } := rfl
  have hout : halfOut k
      { ph1 := ph1, ph2 := ph2, freq := x.freq, level := level, elapsed := elapsed } = h := rfl
  have hpan : panInto h c.pan s.mix = { s.mix with
      L := fadd s.mix.L (fmul h (fsub (fofInt 1) c.pan))
      R := fadd s.mix.R (fmul h (fadd (fofInt 1) c.pan)) } := rfl
  have hstep : voiceStep v s =
      { s.setVoice v (voiceAdvance s.cfg.fs b (detuneRatio b) c x) with
        mix := panInto (halfOut k (voiceAdvance s.cfg.fs b (detuneRatio b) c x)) c.pan s.mix } := rfl
  rw [exec_voiceStepOf, hstep, hvoice, hout, hpan]

/-! ### ARP_TRIGGER and PAD_TRIGGER -/

/-- ARP_TRIGGER plays the note of the advanced walker, where its frequency is finite; the phases go on
(R133). -/
theorem exec_arpTrigger_of_finite {s : State}
    (h : isFinite (noteFrequency (noteNumber (walkerAdvance s) .arp)) = true) :
    exec .arpTrigger s = .next { walkerAdvance s with arp := { s.arp with
      freq := noteFrequency (noteNumber (walkerAdvance s) .arp)
      level := 0x3F800000#32, elapsed := 0#32 } } := by
  have hparts : exec .arpTrigger s =
      andThen (noteFreq .arp (walkerAdvance s)) fun t => .next (voiceTrigger .arp t) := rfl
  rw [hparts, noteFreq_of_finite h, andThen_next, voiceTrigger_arp, ← walkerAdvance_arp s]
  rfl

/-- On a note of finite frequency, PAD_TRIGGER replaces every field of the pad. -/
theorem exec_padTrigger_of_finite {s : State}
    (h : isFinite (noteFrequency (noteNumber s .pad)) = true) :
    exec .padTrigger s = .next { s with pad := {
      freq := noteFrequency (noteNumber s .pad)
      level := 0x3F800000#32, elapsed := 0#32, ph1 := 0#32, ph2 := 0#32 } } := by
  have hparts : exec .padTrigger s =
      andThen (noteFreq .pad s) fun t => .next (voiceTrigger .pad t) := rfl
  rw [hparts, noteFreq_of_finite h, andThen_next, voiceTrigger_pad]
  rfl

/-- Settles O38. -/
theorem triggersRunTheirParts : Obligations.TriggersRunTheirParts := by
  have hwalk (s : State) : exec .walkerAdvance s = .next (walkerAdvance s) := rfl
  refine ⟨fun _ => rfl, fun _ => rfl, ?_, ?_, ?_⟩
  · rintro s w f hw rfl hfin
    cases (hwalk s).symm.trans hw
    exact exec_arpTrigger_of_finite hfin
  · rintro s f rfl hfin
    exact ⟨hwalk s, exec_arpTrigger_of_finite hfin⟩
  · rintro s f rfl hfin
    exact exec_padTrigger_of_finite hfin

end Sys2Proof.Machine

end

section
/-! The percussion voice: the trigger, the gate and the step (R152 to R154), and its envelope's interval
(R155). -/

namespace Sys2Proof.Machine

/-! ### Products with a factor in [0, 1] -/

theorem fmul_of_isFinite {x y : F32} (hx : isFinite x = true) (hy : isFinite y = true) :
    fmul x y = packF32 (fsign x != fsign y) (roundUnits (units x * units y) (2 ^ 149)) := by
  unfold fmul
  dsimp only
  rw [if_neg (by simp [isNaN_of_isFinite hx, isNaN_of_isFinite hy, isInf_of_isFinite hx,
      isInf_of_isFinite hy]), if_neg (by simp [isInf_of_isFinite hx, isInf_of_isFinite hy])]

/-- A value in [0, 1] is its own magnitude, since −0.0 has none, and 1 is 2^149 units. -/
theorem unitsInt_of_inUnit {x : F32} (h : inUnit x = true) :
    unitsInt x = units x ∧ units x ≤ 2 ^ 149 := by
  obtain ⟨-, h0, h1⟩ := (inUnit_iff x).1 h
  rw [fval, le_div_iff₀ (by positivity), zero_mul] at h0
  rw [fval, div_le_one (by positivity)] at h1
  norm_cast at h0 h1
  have hsign : unitsInt x = -units x ∨ unitsInt x = units x := ite_eq_or_eq _ _ _
  omega

/-- A factor of at most 1 gives a product of no larger magnitude: the exact product is bounded by the first
factor, and rounding does not pass a representable bound. -/
theorem units_fmul_le {x y : F32} (hx : isFinite x = true) (hy : isFinite y = true)
    (h : units y ≤ 2 ^ 149) : units (fmul x y) ≤ units x := by
  have hround : roundUnits (units x * units y) (2 ^ 149) ≤ fmag x :=
    roundUnits_le _ _ _ (Nat.two_pow_pos 149) (Nat.mul_le_mul_left (units x) h)
  have hinf : fmag x < infMag := (isFinite_iff x).1 hx
  rw [fmul_of_isFinite hx hy, units_eq_magUnits, fmag_packF32 _ _ (hround.trans hinf.le)]
  exact magUnits_strictMono.monotone hround

/-- In [0, 1] a product is at most its first factor. -/
theorem fle_fmul_self {x y : F32} (hx : inUnit x = true) (hy : inUnit y = true) :
    fle (fmul x y) x = true := by
  have hxy := inUnit_fmul hx hy
  obtain ⟨hxf, -, -⟩ := (inUnit_iff x).1 hx
  obtain ⟨hyf, -, -⟩ := (inUnit_iff y).1 hy
  have hle := units_fmul_le hxf hyf (unitsInt_of_inUnit hy).2
  rw [fle_iff, fkey_le_fkey_iff, (unitsInt_of_inUnit hx).1, (unitsInt_of_inUnit hxy).1]
  exact ⟨isNaN_of_inUnit _ hxy, isNaN_of_inUnit x hx, by exact_mod_cast hle⟩

/-! ### PERC_TRIGGER and PERC_GATE -/

theorem percTrigger_eq (s : State) :
    percTrigger s = { s with perc := { s.perc with env := 0x3F800000#32 } } := by
  rw [percTrigger, fofInt_one]

/-- Settles O39. -/
theorem percTriggerSetsTheEnvelope : Obligations.PercTriggerSetsTheEnvelope := by
  intro s
  rw [← percTrigger_eq]
  rfl

/-- Settles O40: a hit is the trigger after the draw, a miss the draw alone. -/
theorem percGateDrawsOnce : Obligations.PercGateDrawsOnce := by
  intro s fire
  have hgate : exec .percGate s = .next (
      if fire then percTrigger { afterFraction s with ev := { s.ev with percFire := fire } }
      else { afterFraction s with ev := { s.ev with percFire := fire } }) := rfl
  rw [hgate]
  cases fire with
  | true => simp only [if_true, percTrigger_eq]; rfl
  | false => rfl

/-! ### PERC_STEP -/

theorem exec_percStep (s : State) : exec .percStep s = .next (percStep s) := rfl

theorem percStep_of_silent {s : State} (h : flt s.perc.env percEps = true) : percStep s = s :=
  if_pos h

/-- The step of an audible voice: one draw, the filters and the decay, and the contribution to both
channels. -/
theorem percStep_of_audible {s : State} {p : Perc} {c : F32} (h : flt s.perc.env percEps = false)
    (hp : p = percAdvance (Config.percCoef (percFrac s.cfg.fs s.sh.brightness)) s.cfg.percDecay
      (drawnFraction s) s.perc)
    (hc : c = percOut s.perc.env p) :
    percStep s = { afterFraction s with
      perc := p, mix := { s.mix with L := fadd s.mix.L c, R := fadd s.mix.R c } } := by
  subst hp hc
  exact if_neg (Bool.eq_false_iff.1 h)

/-- Settles O41: the lines of R154 are `percAdvance` of the voice and then its `percOut`. -/
theorem percStepAddsTheFilteredNoise : Obligations.PercStepAddsTheFilteredNoise := by
  refine fun s => ⟨fun hsilent => ?_, fun haudible => ?_⟩
  · rw [exec_percStep, percStep_of_silent hsilent]
  · intro noise fc a lp1 lp2 y c
    have hadvance : (⟨fmul s.perc.env s.cfg.percDecay, lp1, lp2⟩ : Perc) =
        percAdvance a s.cfg.percDecay (drawnFraction s) s.perc := rfl
    have hout : c = percOut s.perc.env ⟨fmul s.perc.env s.cfg.percDecay, lp1, lp2⟩ := rfl
    rw [exec_percStep, percStep_of_audible haudible hadvance hout]
    rfl

/-- An audible step multiplies the envelope by the decay factor. -/
theorem percStep_env_of_audible {s : State} (h : flt s.perc.env percEps = false) :
    (percStep s).perc.env = fmul s.perc.env s.cfg.percDecay := by
  rw [percStep_of_audible h rfl rfl]
  rfl

/-- Settles O42: a silent step keeps the envelope, and in [0, 1] an audible step's product is at most the
envelope. -/
theorem percEnvelopeStaysBetweenZeroAndOne : Obligations.PercEnvelopeStaysBetweenZeroAndOne := by
  intro s henv hdecay
  refine ⟨percStep s, exec_percStep s, ?_⟩
  rcases hsilent : flt s.perc.env percEps with _ | _
  · rw [percStep_env_of_audible hsilent]
    exact ⟨inUnit_fmul henv hdecay, fle_fmul_self henv hdecay⟩
  · have hnan := isNaN_of_inUnit _ henv
    rw [percStep_of_silent hsilent]
    exact ⟨henv, fle_of_not_flt _ _ hnan hnan (flt_self _)⟩

end Sys2Proof.Machine

end

section
/-! The renderer's operations one by one: PARAM_REFRESH, RECONCILE, the mixer, the bands, the loudness, the
frame's words and the meters (R167 to R176). -/

namespace Sys2Proof.Machine

/-! ### MIX_DELAY, BAND_FOLLOW, LOUDNESS_ACCUM -/

/-- Settles O43: the lines of R172 are `execMixDelay`; its gain is evaluated at three brightnesses. -/
theorem mixDelayFeedsBackTheEffectedSignal : Obligations.MixDelayFeedsBackTheEffectedSignal := by
  refine ⟨fun _ => rfl, ?_, ?_, ?_⟩
  all_goals decide +kernel

/-- Settles O44: the lines of R173 and R175 are the two operations. -/
theorem bandsAndLoudnessAccumulate : Obligations.BandsAndLoudnessAccumulate :=
  fun _ => ⟨rfl, rfl⟩

/-! ### FRAME_WRITE -/

theorem exec_frameWrite_of_fits {s : State} (h : frameAddr s + 4 * frameWords s ≤ memSize) :
    exec .frameWrite s = .next { s with mem := frameMem s } :=
  if_neg (Nat.not_lt.2 h)

theorem exec_frameWrite_of_wraps {s : State} (h : memSize < frameAddr s + 4 * frameWords s) :
    exec .frameWrite s = .fault (.bufferWrap (frameAddr s)) :=
  if_pos h

theorem frameMem_of_mono {s : State} (h : ¬ 2 ≤ s.cfg.C.toNat) :
    frameMem s = Memory.writeWord s.mem (frameAddr s) s.mix.yL :=
  if_neg h

theorem frameMem_of_stereo {s : State} (h : 2 ≤ s.cfg.C.toNat) :
    frameMem s = Memory.writeWord (Memory.writeWord s.mem (frameAddr s) s.mix.yL)
      (frameAddr s + 4) s.mix.yR :=
  if_pos h

theorem read_frameMem_left (s : State) {j : Nat} (hj : j < 4) :
    Memory.read (frameMem s) (frameAddr s + j) = some (byteOf s.mix.yL j) := by
  by_cases hC : 2 ≤ s.cfg.C.toNat
  · rw [frameMem_of_stereo hC, Memory.read_writeWord_other _ _ _ _ (.inl (by omega)),
      Memory.read_writeWord_byte _ _ _ _ hj]
  · rw [frameMem_of_mono hC, Memory.read_writeWord_byte _ _ _ _ hj]

theorem read_frameMem_right {s : State} (hC : 2 ≤ s.cfg.C.toNat) {j : Nat} (hj : j < 4) :
    Memory.read (frameMem s) (frameAddr s + 4 + j) = some (byteOf s.mix.yR j) := by
  rw [frameMem_of_stereo hC, Memory.read_writeWord_byte _ _ _ _ hj]

/-- A frame's words leave every byte outside them alone. -/
theorem read_frameMem_other {s : State} (hC : 1 ≤ s.cfg.C.toNat) {a : Nat}
    (ha : a < frameAddr s ∨ frameAddr s + 4 * frameWords s ≤ a) :
    Memory.read (frameMem s) a = Memory.read s.mem a := by
  unfold frameWords at ha
  by_cases hstereo : 2 ≤ s.cfg.C.toNat
  · rw [frameMem_of_stereo hstereo, Memory.read_writeWord_other _ _ _ _ (by omega),
      Memory.read_writeWord_other _ _ _ _ (by omega)]
  · rw [frameMem_of_mono hstereo, Memory.read_writeWord_other _ _ _ _ (by omega)]

theorem one_le_toNat_of_toInt_pos {w : Word} (h : 0 < w.toInt) : 1 ≤ w.toNat := by
  rw [BitVec.toInt_eq_toNat_cond] at h
  split at h <;> omega

/-- Settles O45: the statement's last byte is the one before `frameAddr + 4 * frameWords`. -/
theorem frameWriteStoresOnlyTheFrame : Obligations.FrameWriteStoresOnlyTheFrame := by
  intro s hchan a0 last
  have hC := one_le_toNat_of_toInt_pos hchan
  have hlast : last + 1 = frameAddr s + 4 * frameWords s := by
    have hwords : 1 ≤ min s.cfg.C.toNat 2 := le_min hC (by omega)
    show a0 + 4 * min s.cfg.C.toNat 2 - 1 + 1 = a0 + 4 * min s.cfg.C.toNat 2
    omega
  refine ⟨fun hwrap => exec_frameWrite_of_wraps ?_, fun hfit => ?_⟩
  · rw [← hlast, memSize]
    omega
  · refine ⟨_, exec_frameWrite_of_fits ?_, rfl, fun j hj => read_frameMem_left s hj,
      fun hstereo j hj => read_frameMem_right hstereo hj, fun a ha => read_frameMem_other hC ?_⟩
    · rw [← hlast, memSize]
      omega
    · rw [← hlast]
      exact ha

/-! ### PARAM_REFRESH -/

theorem exec_paramRefresh_of_hostv {s : State} (h : s.reg.ctrl.hostv = true) :
    exec .paramRefresh s = refreshApply (refreshReads (refreshRead 0 s)) :=
  if_pos h

theorem exec_paramRefresh_of_not_hostv {s : State} (h : s.reg.ctrl.hostv = false) :
    exec .paramRefresh s = .next (refreshRead 0 s) :=
  if_neg (Bool.eq_false_iff.1 h)

/-- The nine reads clear the accumulators and leave the registers' values (R167). -/
theorem refreshReads_refreshRead_zero (s : State) :
    refreshReads (refreshRead 0 s) =
      { s with acc := ⟨0#32, 0#32, 0#32, 0#32⟩, refr := readParams s.reg } := by
  simp only [refreshReads, refreshRead, clearAcc, readParams]

theorem firstNaN_eq_none_of_isNaN {t d bb m : F32} (ht : isNaN t = false) (hd : isNaN d = false)
    (hbb : isNaN bb = false) (hm : isNaN m = false) : firstNaN t d bb m = none := by
  simp only [firstNaN, ht, hd, hbb, hm, Bool.false_eq_true, if_false]

/-- The value that a fault of the refresh names. -/
def ParamReg.value (g : Regs) (p : ParamReg) : F32 :=
  match p with
  | .tempo => g.tempo
  | .density => g.density
  | .brightness => g.brightness
  | .motion => g.motion

/-- Where some parameter is a NaN, the first one found is. -/
theorem exists_firstNaN {g : Regs} (h : isNaN g.tempo = true ∨ isNaN g.density = true ∨
      isNaN g.brightness = true ∨ isNaN g.motion = true) :
    ∃ p, firstNaN g.tempo g.density g.brightness g.motion = some p ∧ isNaN (p.value g) = true := by
  unfold firstNaN
  split_ifs with ht hd hbb hm
  · exact ⟨.tempo, rfl, ht⟩
  · exact ⟨.density, rfl, hd⟩
  · exact ⟨.brightness, rfl, hbb⟩
  · exact ⟨.motion, rfl, hm⟩
  · simp [ht, hd, hbb, hm] at h

/-- The shadow update of values without a NaN. -/
theorem refreshApply_of_firstNaN_none {s : State}
    (h : firstNaN s.refr.t s.refr.d s.refr.bb s.refr.m = none) :
    refreshApply s = .next { s with
      rng := if s.refr.sd = s.sh.seed then s.rng else { s.rng with s := rngInit s.refr.sd }
      sh := shadowOf s.refr } := by
  unfold refreshApply
  rw [h]
  by_cases hseed : s.refr.sd = s.sh.seed
  · simp only [hseed, ne_eq, not_true_eq_false, if_false, if_true]
  · simp only [hseed, ne_eq, not_false_eq_true, if_true, if_false]
    rfl

theorem refreshApply_of_firstNaN_some {s : State} {p : ParamReg}
    (h : firstNaN s.refr.t s.refr.d s.refr.bb s.refr.m = some p) :
    refreshApply s = .fault (.paramNaN p) := by
  unfold refreshApply
  rw [h]

/-- PARAM_REFRESH with HOSTV = 1 and no NaN in the parameters (R167). -/
theorem exec_paramRefresh_of_firstNaN_none {s : State} (hhostv : s.reg.ctrl.hostv = true)
    (hnan : firstNaN s.reg.tempo s.reg.density s.reg.brightness s.reg.motion = none) :
    exec .paramRefresh s = .next { s with
      acc := ⟨0#32, 0#32, 0#32, 0#32⟩
      refr := readParams s.reg
      rng := if s.reg.seed = s.sh.seed then s.rng else { s.rng with s := rngInit s.reg.seed }
      sh := shadowOf (readParams s.reg) } := by
  rw [exec_paramRefresh_of_hostv hhostv, refreshReads_refreshRead_zero, refreshApply_of_firstNaN_none hnan]
  rfl

/-- PARAM_REFRESH with HOSTV = 1 and a NaN in the parameters (R236). -/
theorem exec_paramRefresh_of_firstNaN_some {s : State} {p : ParamReg} (hhostv : s.reg.ctrl.hostv = true)
    (hnan : firstNaN s.reg.tempo s.reg.density s.reg.brightness s.reg.motion = some p) :
    exec .paramRefresh s = .fault (.paramNaN p) := by
  rw [exec_paramRefresh_of_hostv hhostv, refreshReads_refreshRead_zero]
  exact refreshApply_of_firstNaN_some hnan

/-- Settles O47: HOSTV = 0, the registers without a NaN, and the first NaN of several. -/
theorem paramRefreshCopiesTheRegisters : Obligations.ParamRefreshCopiesTheRegisters := by
  intro s g unit
  have hunit : unit = clampUnit := by
    funext x
    rw [clampUnit, fofInt_one]
    rfl
  refine ⟨fun hhostv => ?_, fun hhostv ht hd hbb hm => ?_, fun hhostv hnan => ?_⟩
  · have hread : refreshRead 0 s = { s with
        acc := ⟨0#32, 0#32, 0#32, 0#32⟩, refr := { s.refr with hv := s.reg.ctrl.hostv } } := rfl
    rw [exec_paramRefresh_of_not_hostv hhostv, hread, hhostv]
  · have hparams : readParams s.reg = ⟨true, g.tempo, g.root, g.scale, g.density, g.brightness, g.motion,
        g.seed, g.enable⟩ := by
      rw [readParams, hhostv]
    rw [exec_paramRefresh_of_firstNaN_none hhostv (firstNaN_eq_none_of_isNaN ht hd hbb hm), hparams, hunit]
    rfl
  · obtain ⟨p, hp, hvalue⟩ := exists_firstNaN hnan
    refine ⟨p, exec_paramRefresh_of_firstNaN_some hhostv hp, ?_⟩
    cases p <;> exact hvalue

/-- PARAM_REFRESH reads the registers and changes none (R167). -/
theorem exec_paramRefresh_reg {s t : State} (h : exec .paramRefresh s = .next t) : t.reg = s.reg := by
  obtain ⟨acc, refr, sh, rng, rfl⟩ := execParamRefresh_frame h
  rfl

/-- A second refresh copies the same registers, and their seed is already the shadow's. -/
theorem exec_paramRefresh_idem {s t : State} (h : exec .paramRefresh s = .next t) :
    exec .paramRefresh t = .next t := by
  have hreg := exec_paramRefresh_reg h
  rcases hhostv : s.reg.ctrl.hostv with _ | _
  · rw [exec_paramRefresh_of_not_hostv hhostv] at h
    rw [exec_paramRefresh_of_not_hostv (by rw [hreg]; exact hhostv)]
    cases h
    rfl
  · rcases hnan : firstNaN s.reg.tempo s.reg.density s.reg.brightness s.reg.motion with _ | p
    · rw [exec_paramRefresh_of_firstNaN_none hhostv hnan] at h
      rw [exec_paramRefresh_of_firstNaN_none (by rw [hreg]; exact hhostv) (by rw [hreg]; exact hnan)]
      cases h
      exact congrArg _ (by simp only [shadowOf, readParams, if_true])
    · cases (exec_paramRefresh_of_firstNaN_some hhostv hnan).symm.trans h

/-! ### RECONCILE -/

theorem reconcileTiming_eq (s : State) : reconcileTiming s = { s with
    tim := if tempoMoved s then periodsOf s.cfg.fs s.sh.bpm else s.tim
    recon := { s.recon with lastBpm := if tempoMoved s then s.sh.bpm else s.recon.lastBpm } } := by
  unfold reconcileTiming
  cases tempoMoved s <;> rfl

theorem reconcileScale_eq (s : State) : reconcileScale s = { s with
    walk := if s.sh.scale = s.recon.lastScale then s.walk else (scaleRebuild s.sh.scale s).walk
    rng := if s.sh.scale = s.recon.lastScale then s.rng else (scaleRebuild s.sh.scale s).rng
    recon := { s.recon with lastScale := s.sh.scale } } := by
  unfold reconcileScale
  by_cases hscale : s.sh.scale = s.recon.lastScale
  · simp only [hscale, ne_eq, not_true_eq_false, if_false, if_true]
  · rw [if_pos hscale, if_neg hscale, if_neg hscale, scaleRebuild_eq]
    rfl

/-- Settles O48: the timing half, then the scale half, which reads nothing that the first writes. -/
theorem reconcileRecomputesWhatChanged : Obligations.ReconcileRecomputesWhatChanged := by
  intro s moved row draw
  have hexec : exec .reconcile s = .next (reconcileScale (reconcileTiming s)) := rfl
  rw [hexec, reconcileScale_eq, scaleRebuild_eq, reconcileTiming_eq]
  rfl

/-- A finite value less itself is +0.0, and otherwise the difference is a NaN. -/
theorem fsub_self (x : F32) : fsub x x = 0#32 ∨ isNaN (fsub x x) = true := by
  unfold fsub
  split
  · exact .inr (isNaN_nanOf _ _ _)
  · rename_i hnan
    have hinf : isInf x = false := by
      simp only [Bool.or_eq_true, Bool.and_eq_true, beq_self_eq_true, and_true, and_self, or_self,
        not_or] at hnan
      exact Bool.eq_false_iff.2 hnan.2
    have hinf' : isInf (fneg x) = false := by rw [isInf, fmag_fneg]; exact hinf
    refine .inl ?_
    rw [addCore, if_neg (by simp [hinf]), if_neg (by simp [hinf'])]
    simp [unitsInt_fneg, fsign_fneg, packF32]

theorem isNaN_fabs (x : F32) : isNaN (fabs x) = isNaN x := by
  have hmag : fmag (fabs x) = fmag x := by
    have hbits : (fabs x).extractLsb' 0 31 = x.extractLsb' 0 31 := by
      unfold fabs
      ext i hi
      interval_cases i <;> simp
    simpa [fmag, BitVec.extractLsb'_toNat] using congrArg BitVec.toNat hbits
  rw [isNaN, isNaN, hmag]

/-- A tempo has not moved from itself: the difference is 0.0, which no BPM_EPS is below, or a NaN. -/
theorem not_moved_self (x : F32) : flt bpmEps (fabs (fsub x x)) = false := by
  rw [Bool.eq_false_iff]
  intro hlt
  obtain ⟨-, hnan, hkey⟩ := (flt_iff _ _).1 hlt
  obtain hzero | hnan' := fsub_self x
  · have heps := ((fle_iff _ _).1 fle_zero_bpmEps).2.2
    rw [hzero] at hkey
    have habs : fkey (fabs 0#32) = fkey 0#32 := by decide
    omega
  · rw [isNaN_fabs, hnan'] at hnan
    cases hnan

/-- A second reconciliation finds the tempo where the first has left it, and the selector that it rebuilt. -/
theorem exec_reconcile_idem {s t : State} (h : exec .reconcile s = .next t) :
    exec .reconcile t = .next t := by
  rw [reconcileRecomputesWhatChanged s] at h
  rw [reconcileRecomputesWhatChanged t]
  cases h
  dsimp only
  by_cases hmoved : flt bpmEps (fabs (fsub s.sh.bpm s.recon.lastBpm)) = true
  · simp only [hmoved, if_true, not_moved_self, Bool.false_eq_true, if_false]
  · simp only [hmoved, if_true, Bool.false_eq_true, if_false]

/-- Settles O49. -/
theorem refreshAndReconcileSettle : Obligations.RefreshAndReconcileSettle :=
  ⟨fun _ _ => exec_paramRefresh_idem, fun _ _ => exec_reconcile_idem⟩

/-! ### METER_PUBLISH -/

theorem exec_meterPublish (s : State) :
    exec .meterPublish s = .next (publishDone (publishMeters s)) := rfl

/-- Settles O50: each meter is smoothed towards a value that no meter write changes. -/
theorem meterPublishSmoothsAndEnds : Obligations.MeterPublishSmoothsAndEnds := by
  intro s n towards
  rw [exec_meterPublish]
  simp only [publishMeters, publishMeter, publishDone, Meters.set, Meters.get, blockValue]
  rfl

end Sys2Proof.Machine

end

section
/-! The smoothing of a meter never passes the block value, in rounded arithmetic (R176, R178). -/

namespace Sys2Proof.Machine

/-! ### A rounding of a value that is not negative -/

/-- A pattern is a rounding of q, which is not negative and has a finite value above it: it passes no
representable value that q does not pass, and is at most twice q. -/
structure RoundsNonneg (z : F32) (q : ℚ) : Prop where
  finite : isFinite z = true
  lower : ∀ x, isFinite x = true → fval x ≤ q → fval x ≤ fval z
  upper : ∀ x, q ≤ fval x → fval z ≤ fval x
  le_double : fval z ≤ 2 * q

/-- A value that is not negative is its magnitude's: −0.0 has the value 0. -/
theorem fval_eq_magUnits {x : F32} (h : 0 ≤ fval x) : fval x = magUnits (fmag x) / 2 ^ 149 := by
  have hmag : (0 : ℚ) ≤ magUnits (fmag x) / 2 ^ 149 := by positivity
  rw [fval_eq_signed, units_eq_magUnits] at h ⊢
  cases hsign : fsign x <;> simp only [hsign, Bool.false_eq_true, if_true, if_false] at h ⊢ <;> linarith

theorem fval_zero : fval 0#32 = 0 := by
  have hunits : unitsInt 0#32 = 0 := by decide
  rw [fval, hunits]
  norm_num

theorem RoundsNonneg.nonneg {z : F32} {q : ℚ} (h : RoundsNonneg z q) (hq : 0 ≤ q) : 0 ≤ fval z := by
  rw [← fval_zero] at hq ⊢
  exact h.lower _ (by decide) hq

/-- A rounded magnitude's value; the sign bit is set on a zero only. -/
theorem fval_packF32_of_nonneg {neg : Bool} {num den : Nat} (hneg : neg = true → num = 0)
    (hinf : roundUnits num den ≤ infMag) :
    fval (packF32 neg (roundUnits num den)) = magUnits (roundUnits num den) / 2 ^ 149 := by
  rw [fval_packF32 neg _ hinf]
  cases neg with
  | false => simp
  | true =>
    obtain rfl := hneg rfl
    have hround : roundUnits 0 den = 0 := by simp [roundUnits]
    simp [hround, magUnits]

/-- One narrowing of a fraction of units that some finite value bounds. -/
theorem roundsNonneg_packF32 {neg : Bool} {num den : Nat} {hi : F32} (hneg : neg = true → num = 0)
    (hden : 0 < den) (hhi : isFinite hi = true) (h : (num : ℚ) / (den * 2 ^ 149) ≤ fval hi) :
    RoundsNonneg (packF32 neg (roundUnits num den)) (num / (den * 2 ^ 149)) := by
  have hpos : (0 : ℚ) < den * 2 ^ 149 := by positivity
  have hq : (0 : ℚ) ≤ num / (den * 2 ^ 149) := by positivity
  have hmag (p : Nat) : (magUnits p : ℚ) / 2 ^ 149 = (magUnits p * den : Nat) / (den * 2 ^ 149) := by
    push_cast
    field_simp
  have hround (x : F32) (hx : (num : ℚ) / (den * 2 ^ 149) ≤ fval x) : roundUnits num den ≤ fmag x := by
    rw [fval_eq_magUnits (hq.trans hx), hmag, div_le_div_iff_of_pos_right hpos, Nat.cast_le] at hx
    exact roundUnits_le _ _ _ hden hx
  have hlt : roundUnits num den < infMag := (hround hi h).trans_lt ((isFinite_iff hi).1 hhi)
  have hval := fval_packF32_of_nonneg hneg hlt.le
  refine ⟨?_, fun x hx hle => ?_, fun x hle => ?_, ?_⟩
  · rw [isFinite_iff, fmag_packF32 _ _ hlt.le]
    exact hlt
  · rw [hval]
    rcases le_total 0 (fval x) with hx0 | hx0
    · rw [fval_eq_magUnits hx0] at hle ⊢
      rw [hmag, div_le_div_iff_of_pos_right hpos, Nat.cast_le] at hle
      have hmono := magUnits_strictMono.monotone (le_roundUnits hden ((isFinite_iff x).1 hx).le hle)
      gcongr
    · exact hx0.trans (by positivity)
  · rw [hval, fval_eq_magUnits (hq.trans hle)]
    have hmono := magUnits_strictMono.monotone (hround x hle)
    gcongr
  · rw [hval, hmag, ← mul_div_assoc, div_le_div_iff_of_pos_right hpos]
    exact_mod_cast magUnits_roundUnits_le num den

/-! ### The operations, where the exact result is not negative and below a finite value -/

theorem roundsNonneg_addCore {x y hi : F32} (hx : isFinite x = true) (hy : isFinite y = true)
    (hhi : isFinite hi = true) (h0 : 0 ≤ fval x + fval y) (h : fval x + fval y ≤ fval hi) :
    RoundsNonneg (addCore x y) (fval x + fval y) := by
  have hsum : fval x + fval y = ((unitsInt x + unitsInt y : Int) : ℚ) / 2 ^ 149 := by
    simp [fval, add_div]
  rw [hsum] at h0 h ⊢
  unfold addCore
  rw [if_neg (by simp [isInf_of_isFinite hx]), if_neg (by simp [isInf_of_isFinite hy])]
  dsimp only
  generalize unitsInt x + unitsInt y = n at *
  have hn : 0 ≤ n := by
    rw [le_div_iff₀ (by positivity), zero_mul] at h0
    exact_mod_cast h0
  obtain ⟨m, rfl⟩ := Int.eq_ofNat_of_zero_le hn
  have hm : ((m : Int) : ℚ) / 2 ^ 149 = m / ((1 : Nat) * 2 ^ 149) := by simp
  rw [hm] at h ⊢
  split
  · rename_i hzero
    obtain rfl : m = 0 := by exact_mod_cast hzero
    have hround : roundUnits 0 1 = 0 := by decide
    rw [← hround]
    exact roundsNonneg_packF32 (fun _ => rfl) Nat.one_pos hhi h
  · exact roundsNonneg_packF32 (by simp) Nat.one_pos hhi h

theorem roundsNonneg_fadd {x y hi : F32} (hx : isFinite x = true) (hy : isFinite y = true)
    (hhi : isFinite hi = true) (h0 : 0 ≤ fval x + fval y) (h : fval x + fval y ≤ fval hi) :
    RoundsNonneg (fadd x y) (fval x + fval y) := by
  unfold fadd
  rw [if_neg (by simp [isNaN_of_isFinite hx, isNaN_of_isFinite hy, isInf_of_isFinite hx])]
  exact roundsNonneg_addCore hx hy hhi h0 h

theorem roundsNonneg_fsub {x y hi : F32} (hx : isFinite x = true) (hy : isFinite y = true)
    (hhi : isFinite hi = true) (h0 : 0 ≤ fval x - fval y) (h : fval x - fval y ≤ fval hi) :
    RoundsNonneg (fsub x y) (fval x - fval y) := by
  unfold fsub
  rw [if_neg (by simp [isNaN_of_isFinite hx, isNaN_of_isFinite hy, isInf_of_isFinite hx])]
  rw [sub_eq_add_neg, ← fval_fneg] at h0 h ⊢
  exact roundsNonneg_addCore hx ((isFinite_fneg y).trans hy) hhi h0 h

/-- A negative sign on a value that is not negative is that of −0.0. -/
theorem units_eq_zero_of_fsign {x : F32} (hsign : fsign x = true) (h : 0 ≤ fval x) : units x = 0 := by
  rw [fval_eq_signed, if_pos hsign] at h
  have hle : (units x : ℚ) / 2 ^ 149 ≤ 0 := by linarith
  rw [div_le_iff₀ (by positivity), zero_mul] at hle
  exact_mod_cast le_antisymm hle (by positivity)

theorem roundsNonneg_fmul {x y hi : F32} (hx : isFinite x = true) (hy : isFinite y = true)
    (hhi : isFinite hi = true) (hx0 : 0 ≤ fval x) (hy0 : 0 ≤ fval y) (h : fval x * fval y ≤ fval hi) :
    RoundsNonneg (fmul x y) (fval x * fval y) := by
  have hprod : fval x * fval y = (units x * units y : Nat) / ((2 ^ 149 : Nat) * 2 ^ 149) := by
    rw [fval_eq_magUnits hx0, fval_eq_magUnits hy0, ← units_eq_magUnits, ← units_eq_magUnits,
      Nat.cast_mul, Nat.cast_pow, Nat.cast_ofNat, div_mul_div_comm]
  have hneg : (fsign x != fsign y) = true → units x * units y = 0 := by
    intro hne
    cases hsx : fsign x with
    | true => rw [units_eq_zero_of_fsign hsx hx0, zero_mul]
    | false =>
      have hsy : fsign y = true := by simpa [hsx] using hne
      rw [units_eq_zero_of_fsign hsy hy0, mul_zero]
  rw [hprod] at h ⊢
  rw [fmul_of_isFinite hx hy]
  exact roundsNonneg_packF32 hneg (Nat.two_pow_pos 149) hhi h

/-! ### The smoothing -/

/-- The order of two values that are no NaN. -/
theorem fle_iff_fval_le {x y : F32} (hx : isNaN x = false) (hy : isNaN y = false) :
    fle x y = true ↔ fval x ≤ fval y := by
  rw [fle_iff, fkey_le_fkey_iff, fval, fval, div_le_div_iff_of_pos_right (by positivity), Int.cast_le]
  simp only [hx, hy, true_and]

theorem natAbs_fkey (x : F32) : (fkey x).natAbs = fmag x := by
  unfold fkey
  split <;> omega

/-- A value between 0 and a finite one is finite. -/
theorem isFinite_of_between {m v : F32} (hv : isFinite v = true) (h0 : fle 0#32 m = true)
    (hmv : fle m v = true) : isFinite m = true := by
  have hvmag := (isFinite_iff v).1 hv
  have hkey0 := ((fle_iff _ _).1 h0).2.2
  have hkeyv := ((fle_iff _ _).1 hmv).2.2
  have hzero : fkey 0#32 = 0 := by decide
  have hmabs := natAbs_fkey m
  have hvabs := natAbs_fkey v
  rw [isFinite_iff]
  omega

/-- The smoothing factor 0.2 is a representable value of at most 1/4. -/
theorem smoothing_factor : isFinite (fofRatio 1 5) = true ∧ 0 ≤ fval (fofRatio 1 5) ∧
    fval (fofRatio 1 5) ≤ 1 / 4 := by
  have hr := roundsWithinOne_fofRatio 1 5 (by omega) (by omega)
  have hpattern : fofRatio 1 5 = 0x3E4CCCCD#32 := by decide +kernel
  have hunits : unitsInt 0x3E4CCCCD#32 ≤ 2 ^ 147 := by decide
  refine ⟨hr.finite, hr.nonneg (by norm_num), ?_⟩
  rw [hpattern, fval, div_le_iff₀ (by positivity)]
  calc ((unitsInt 0x3E4CCCCD#32 : Int) : ℚ) ≤ ((2 ^ 147 : Int) : ℚ) := Int.cast_le.2 hunits
    _ = 1 / 4 * 2 ^ 149 := by norm_num

/-- From a meter m to a block value v above it: the way and its product with 0.2 are each at most doubled by
rounding, so the step is no longer than the way, and the last rounding does not pass v. -/
theorem smooth_between {m v : F32} (hv : isFinite v = true) (h0 : fle 0#32 m = true)
    (hmv : fle m v = true) : fle m (smooth m v) = true ∧ fle (smooth m v) v = true := by
  have hm := isFinite_of_between hv h0 hmv
  have hvnan := isNaN_of_isFinite hv
  have hmnan := isNaN_of_isFinite hm
  rw [fle_iff_fval_le (by decide) hmnan, fval_zero] at h0
  rw [fle_iff_fval_le hmnan hvnan] at hmv
  obtain ⟨hkf, hk0, hk1⟩ := smoothing_factor
  have hway := roundsNonneg_fsub hv hm hv (by linarith) (by linarith)
  have hway0 := hway.nonneg (by linarith)
  have hwayv := hway.upper v (by linarith)
  have hwayle := hway.le_double
  have hstep := roundsNonneg_fmul hkf hway.finite hv hk0 hway0 (by nlinarith)
  have hstep0 := hstep.nonneg (mul_nonneg hk0 hway0)
  have hsteple : fval (fmul (fofRatio 1 5) (fsub v m)) ≤ fval v - fval m := by
    have := hstep.le_double
    nlinarith
  have hsum := roundsNonneg_fadd hm hstep.finite hv (by linarith) (by linarith)
  have hsumnan := isNaN_of_isFinite hsum.finite
  rw [smooth, fle_iff_fval_le hmnan hsumnan, fle_iff_fval_le hsumnan hvnan]
  exact ⟨hsum.lower m hm (by linarith), hsum.upper v (by linarith)⟩

/-- METER_PUBLISH smooths each meter towards its block value. -/
theorem publishMeters_get {k : Nat} (hk : k < 7) (s : State) :
    (publishDone (publishMeters s)).meter.get k = smooth (s.meter.get k) (blockValue k s) := by
  simp only [publishMeters, publishMeter, publishDone, Meters.set, Meters.get, blockValue]
  interval_cases k <;> rfl

/-- Settles O51. -/
theorem smoothedMeterNeverOvershoots : Obligations.SmoothedMeterNeverOvershoots := by
  intro s
  refine ⟨publishDone (publishMeters s), exec_meterPublish s, fun k hk hv h0 hmv => ?_⟩
  rw [publishMeters_get hk]
  exact smooth_between hv h0 hmv

end Sys2Proof.Machine

end

section
/-! The step by its next event and its position (R166, R170, R186), and the phases REFRESH and PUBLISH as the
runs of their steps (R167, R176; the cut into steps is the model's, logs 20 to 22). -/

namespace Sys2Proof.Machine

/-! ### Sequences of steps -/

@[simp] theorem andThen_next_right (r : Result) : andThen r .next = r := by
  cases r <;> rfl

theorem andThen_assoc (r : Result) (f g : State → Result) :
    andThen (andThen r f) g = andThen r fun s => andThen (f s) g := by
  cases r <;> rfl

theorem runSteps_succ (n : Nat) (s : State) : runSteps (n + 1) s = andThen (runSteps n s) step := by
  induction n generalizing s with
  | zero => exact andThen_next_right (step s)
  | succ n ih =>
    calc andThen (step s) (runSteps (n + 1))
        = andThen (step s) fun t => andThen (runSteps n t) step := congrArg _ (funext ih)
      _ = andThen (runSteps (n + 1) s) step := (andThen_assoc _ _ _).symm

/-! ### The step of a code -/

theorem fetchCode_outcome {c : Code} {i : Instr} (h : decode c = .ok i) (s : State) :
    (fetchCode c s).outcome = exec i s := by
  have hfetch : fetchCode c s = .run i s .stay := by
    cases c with
    | hb16 cmd d =>
      have hdecode : decodeHB16 cmd d = .ok i := h
      simp only [fetchCode, fetchHB16, hdecode]
    | uop op =>
      have hdecode : decodeUop op = .ok i := h
      simp only [fetchCode, fetchUop, hdecode]
  rw [hfetch]
  exact andThen_next_right (exec i s)

theorem step_code {s : State} {c : Code} {i : Instr} (hs : s.sched.head? = some (.code c))
    (hc : decode c = .ok i) : step s = exec i (popped s) := by
  obtain ⟨rest, hrest⟩ := List.head?_eq_some_iff.1 hs
  have hfetch : fetch s = fetchCode c (popped s) := by
    simp only [fetch, popped, hrest, List.tail_cons]
  rw [step_eq_outcome, hfetch, fetchCode_outcome hc]

theorem decode_codeOfTableWord {nbits w : Nat} {i : Instr} (h : decodeTableWord nbits w = some i) :
    decode (codeOfTableWord nbits w) = .ok i := by
  unfold decodeTableWord at h
  split at h
  · cases h
    assumption
  · cases h

/-! ### The engine's step -/

theorem popped_of_sched_nil {s : State} (h : s.sched = []) : popped s = s := by
  rw [popped, h, List.tail_nil, ← h]

theorem engineNext_of_sched_nil {s : State} (h : s.sched = []) : engineNext s := by
  rw [engineNext, h]
  trivial

theorem step_engine {s : State} (h : engineNext s) : step s = (fetchEngine (popped s)).outcome := by
  rw [step_eq_outcome]
  refine congrArg Fetched.outcome ?_
  unfold engineNext at h
  split at h
  · rename_i hs
    rw [popped_of_sched_nil hs, fetch, hs]
  · rename_i rest hs
    simp only [fetch, popped, hs, List.tail_cons]
  · exact h.elim

theorem step_refresh {s : State} (h : engineNext s) (hphase : s.seq.phase = .refresh) :
    step s = refreshStep (popped s) := by
  rw [step_engine h, fetchEngine, popped_seq, hphase]
  rfl

theorem step_reconcile {s : State} (h : engineNext s) (hphase : s.seq.phase = .reconcile) :
    step s = mapNext (finish .toFrames) (exec .reconcile (popped s)) := by
  rw [step_engine h, fetchEngine, popped_seq, hphase]
  rfl

theorem step_publish {s : State} (h : engineNext s) (hphase : s.seq.phase = .publish) :
    step s = .next (publishStep (popped s)) := by
  rw [step_engine h, fetchEngine, popped_seq, hphase]
  rfl

theorem step_microOp {s : State} {op : BitVec 8} {i : Instr} (h : engineNext s)
    (hphase : s.seq.phase = .frame) (hop : microOp s = some op) (hi : decodeUop op = .ok i) :
    step s = mapNext (finish .nextMicroStep) (exec i (microPrelude (popped s))) := by
  have hop' : microOp (popped s) = some op := hop
  rw [step_engine h, fetchEngine, popped_seq, hphase]
  simp only [hop', fetchUop, hi]
  rfl

theorem step_no_microOp {s : State} (h : engineNext s) (hphase : s.seq.phase = .frame)
    (hop : microOp s = none) : step s = .next (finish .nextMicroStep (microPrelude (popped s))) := by
  have hop' : microOp (popped s) = none := hop
  rw [step_engine h, fetchEngine, popped_seq, hphase]
  simp only [hop']
  rfl

/-- Settles O18: the step of a code, of a table word as the next event, and of the engine in RECONCILE and
in a frame. -/
theorem stepRunsTheDecodedInstruction : Obligations.StepRunsTheDecodedInstruction :=
  ⟨fun _ _ _ => step_code, fun _ _ _ _ hw => step_code rfl (decode_codeOfTableWord hw),
    fun _ => step_reconcile, fun _ _ _ => step_microOp⟩

/-! ### The phase REFRESH -/

/-- The state at the read or the meter write `n` of its phase. -/
def atSub (n : Nat) (s : State) : State := { s with seq := { s.seq with sub := n } }

theorem atSub_zero {s : State} (h : s.seq.sub = 0) : atSub 0 s = s := by
  rw [atSub, ← h]

theorem refreshRead_atSub (k n : Nat) (s : State) :
    refreshRead k (atSub n s) = atSub n (refreshRead k s) := by
  unfold refreshRead
  split <;> rfl

theorem refreshApply_atSub (n : Nat) (s : State) :
    refreshApply (atSub n s) = mapNext (atSub n) (refreshApply s) := by
  rcases hnan : firstNaN s.refr.t s.refr.d s.refr.bb s.refr.m with _ | p
  · rw [refreshApply_of_firstNaN_none hnan]
    exact refreshApply_of_firstNaN_none (s := atSub n s) hnan
  · rw [refreshApply_of_firstNaN_some hnan]
    exact refreshApply_of_firstNaN_some (s := atSub n s) hnan

theorem refreshStep_goesOn {s : State} (h : refreshGoesOn s.reg.ctrl.hostv s.seq.sub) :
    refreshStep s = .next (atSub (s.seq.sub + 1) (refreshRead s.seq.sub s)) := by
  obtain ⟨hlt, hhostv⟩ := h
  unfold refreshStep
  dsimp only
  by_cases hsub : s.seq.sub = 0
  · rw [if_pos hsub, if_pos (hhostv hsub), hsub]
    rfl
  · rw [if_neg hsub, if_pos hlt, refreshRead_seq]
    simp only [atSub, refreshRead_seq]

theorem refreshStep_hostv_off {s : State} (hsub : s.seq.sub = 0) (hhostv : s.reg.ctrl.hostv = false) :
    refreshStep s = .next (toReconcile (refreshRead 0 s)) := by
  unfold refreshStep
  dsimp only
  rw [if_pos hsub, if_neg (Bool.eq_false_iff.1 hhostv), hsub]

theorem refreshStep_last {s : State} (hsub : s.seq.sub = 8) :
    refreshStep s = mapNext toReconcile (refreshApply (refreshRead 8 s)) := by
  unfold refreshStep
  dsimp only
  rw [if_neg (by omega), if_neg (by omega), hsub]
  rfl

/-- The first n register reads of PARAM_REFRESH. -/
def firstReads : Nat → State → State
  | 0, s => s
  | n + 1, s => refreshRead n (firstReads n s)

theorem firstReads_frame (n : Nat) (s : State) :
    ∃ acc refr, firstReads n s = { s with acc := acc, refr := refr } := by
  induction n with
  | zero => exact ⟨_, _, rfl⟩
  | succ n ih => exact refreshRead_frame_trans n ih

theorem firstReads_nine (s : State) : firstReads 9 s = refreshReads (refreshRead 0 s) := rfl

section
variable {s : State} (hsched : s.sched = [])
include hsched

/-- The step at read n of the phase. -/
theorem step_atRead (hphase : s.seq.phase = .refresh) (n : Nat) :
    step (atSub n (firstReads n s)) = refreshStep (atSub n (firstReads n s)) := by
  obtain ⟨acc, refr, hframe⟩ := firstReads_frame n s
  have hsched' : (atSub n (firstReads n s)).sched = [] := by rw [hframe]; exact hsched
  have hphase' : (atSub n (firstReads n s)).seq.phase = .refresh := by rw [hframe]; exact hphase
  rw [step_refresh (engineNext_of_sched_nil hsched') hphase', popped_of_sched_nil hsched']

/-- With HOSTV = 1 the steps before the last are the reads, one each. -/
theorem runSteps_reads (hphase : s.seq.phase = .refresh) (hhostv : s.reg.ctrl.hostv = true) {n : Nat}
    (hn : n ≤ 8) : runSteps n (atSub 0 s) = .next (atSub n (firstReads n s)) := by
  induction n with
  | zero => rfl
  | succ n ih =>
    obtain ⟨acc, refr, hframe⟩ := firstReads_frame n s
    have hgo : refreshGoesOn (atSub n (firstReads n s)).reg.ctrl.hostv n :=
      ⟨hn, fun _ => by rw [hframe]; exact hhostv⟩
    rw [runSteps_succ, ih (by omega), andThen_next, step_atRead hsched hphase]
    refine (refreshStep_goesOn hgo).trans ?_
    show Host.Outcome.next (atSub (n + 1) (refreshRead n (atSub n (firstReads n s)))) = _
    rw [refreshRead_atSub]
    rfl

theorem runSteps_refresh (hphase : s.seq.phase = .refresh) (hsub : s.seq.sub = 0) :
    runSteps (if s.reg.ctrl.hostv then 9 else 1) s = mapNext toReconcile (exec .paramRefresh s) := by
  rcases hhostv : s.reg.ctrl.hostv with _ | _
  · rw [exec_paramRefresh_of_not_hostv hhostv]
    show andThen (step s) .next = _
    rw [andThen_next_right, step_refresh (engineNext_of_sched_nil hsched) hphase,
      popped_of_sched_nil hsched, refreshStep_hostv_off hsub hhostv]
    rfl
  · rw [exec_paramRefresh_of_hostv hhostv, ← firstReads_nine]
    show runSteps (8 + 1) s = _
    rw [runSteps_succ, ← atSub_zero hsub, runSteps_reads hsched hphase hhostv le_rfl, andThen_next,
      step_atRead hsched hphase, refreshStep_last rfl, refreshRead_atSub, refreshApply_atSub,
      atSub_zero hsub, mapNext, mapNext, andThen_assoc]
    rfl

end

/-! ### The phase PUBLISH -/

/-- The first n meter writes of METER_PUBLISH. -/
def firstMeters : Nat → State → State
  | 0, s => s
  | n + 1, s => publishMeter n (firstMeters n s)

theorem firstMeters_frame (n : Nat) (s : State) : ∃ meter, firstMeters n s = { s with meter := meter } := by
  induction n with
  | zero => exact ⟨_, rfl⟩
  | succ n ih => exact publishMeter_frame n ih

theorem firstMeters_seven (s : State) : firstMeters 7 s = publishMeters s := rfl

theorem publishStep_last (s : State) :
    publishStep (atSub 7 s) = { publishDone s with seq := ⟨.idle, 0, 0, 0⟩ } := rfl

section
variable {s : State} (hsched : s.sched = []) (hphase : s.seq.phase = .publish)
include hsched hphase

/-- The step at meter write n of the phase. -/
theorem step_atMeter (n : Nat) :
    step (atSub n (firstMeters n s)) = .next (publishStep (atSub n (firstMeters n s))) := by
  obtain ⟨meter, hframe⟩ := firstMeters_frame n s
  have hsched' : (atSub n (firstMeters n s)).sched = [] := by rw [hframe]; exact hsched
  have hphase' : (atSub n (firstMeters n s)).seq.phase = .publish := by rw [hframe]; exact hphase
  rw [step_publish (engineNext_of_sched_nil hsched') hphase', popped_of_sched_nil hsched']

/-- The steps before the last are the meter writes, one each. -/
theorem runSteps_meters {n : Nat} (hn : n ≤ 7) :
    runSteps n (atSub 0 s) = .next (atSub n (firstMeters n s)) := by
  induction n with
  | zero => rfl
  | succ n ih =>
    have hlt : (atSub n (firstMeters n s)).seq.sub < 7 := hn
    rw [runSteps_succ, ih (by omega), andThen_next, step_atMeter hsched hphase, publishStep, if_pos hlt]
    rfl

theorem runSteps_publish (hsub : s.seq.sub = 0) :
    runSteps 8 s = mapNext (fun t => { t with seq := ⟨.idle, 0, 0, 0⟩ }) (exec .meterPublish s) := by
  show runSteps (7 + 1) s = _
  rw [runSteps_succ, ← atSub_zero hsub, runSteps_meters hsched hphase le_rfl, andThen_next,
    step_atMeter hsched hphase, atSub_zero hsub, publishStep_last, firstMeters_seven, exec_meterPublish]
  rfl

end

/-- Settles O20. -/
theorem refreshAndPublishPhasesAreTheirOperations :
    Obligations.RefreshAndPublishPhasesAreTheirOperations :=
  fun _ hsched hsub => ⟨fun hphase => runSteps_refresh hsched hphase hsub,
    fun hphase => runSteps_publish hsched hphase hsub⟩

/-! ### The whole block -/

/-- The first step of a block's refresh has all its turns left. -/
theorem rendering_blockStart {s : State} (hs : Inv s) (hphase : s.seq.phase = .refresh)
    (hsub : s.seq.sub = 0) :
    Rendering s.reg s.blk.N (blockSteps s.reg.ctrl.hostv s.blk.N.toNat) s := by
  have hpos := hs.position
  rw [positionLegal, hphase] at hpos
  obtain ⟨-, hi, hk, -⟩ := hpos
  have hseq : s.seq = ⟨.refresh, 0, 0, 0⟩ := by
    rw [show s.seq = ⟨s.seq.phase, s.seq.i, s.seq.k, s.seq.sub⟩ from rfl, hphase, hi, hk, hsub]
  refine ⟨hs, fun _ => ⟨rfl, rfl, ?_⟩, fun hnone => ?_⟩
  · rw [hseq, turnsLeft_blockStart]
  · simp [blockSteps] at hnone

/-- Settles O22: each turn uses up one of the block's turns; while one is left the registers stay. -/
theorem blockEndsAfterItsSteps : Obligations.BlockEndsAfterItsSteps := by
  intro s t hs hsched hphase hsub hrun
  have hstart := rendering_blockStart hs hphase hsub
  rw [← runEvents_engine _ s hsched] at hrun
  have hend := hstart.engineTurns _ hrun
  rw [Nat.sub_self] at hend
  refine ⟨hend.seq_eq, hend.ended rfl, fun n hn => ?_⟩
  obtain ⟨u, hu⟩ := runEvents_engine_of_le hn.le hrun
  obtain ⟨hreg, -⟩ := (hstart.engineTurns n hu).running (Nat.sub_pos_of_lt hn)
  exact ⟨u, (runEvents_engine n s hsched).symm.trans hu, hreg⟩

end Sys2Proof.Machine

end

section
/-! The per-frame micro-program step by step (R170): what a step can do and keeps, a disabled unit in a frame
(R171, R266), and the frame as the run of its twelve engine steps (R166). -/

namespace Sys2Proof.Machine

/-! ### The steps of the micro-program -/

/-- Step k of the micro-program: its micro-operation where its condition holds, after percFire is cleared at
k = 1 (R41; log 30); step 5 clears the frame accumulator (R170). -/
def microBody (k : Nat) (s : State) : Result :=
  match k with
  | 1 => exec .clockTick { s with ev := { s.ev with percFire := false } }
  | 2 => execIf (s.ev.ev16 && s.sh.arpEn) .arpTrigger s
  | 3 => execIf (s.ev.ev8 && s.sh.percEn) .percGate s
  | 4 => execIf (s.ev.evPad && s.sh.padEn) .padTrigger s
  | 5 => .next { s with mix := { s.mix with L := 0#32, R := 0#32 } }
  | 6 => execIf s.sh.arpEn .voiceStepArp s
  | 7 => execIf s.sh.padEn .voiceStepPad s
  | 8 => execIf s.sh.percEn .percStep s
  | 9 => exec .mixDelay s
  | 10 => exec .bandFollow s
  | 11 => exec .loudnessAccum s
  | 12 => exec .frameWrite s
  | _ => .next s

/-- Step k of the micro-program and the n steps after it. -/
def microProgram : Nat → Nat → State → Result
  | 0, k, s => microBody k s
  | n + 1, k, s => andThen (microBody k s) (microProgram n (k + 1))

theorem frameProgram_eq_microProgram (s : State) : frameProgram s = microProgram 11 1 s := rfl

/-- The shadow enable that a micro-operation of the frame depends on (R170). -/
def unitEnabled (sh : Shadow) (i : Instr) : Bool :=
  match i with
  | .arpTrigger | .voiceStepArp => sh.arpEn
  | .percGate | .percStep => sh.percEn
  | .padTrigger | .voiceStepPad => sh.padEn
  | _ => true

/-- What a step of the micro-program can do. -/
inductive MicroStep (s t : State) : Prop where
  | skip (same : t = s)
  | tick (ticks : t = clockTick { s with ev := { s.ev with percFire := false } })
  | clear (clears : t = { s with mix := { s.mix with L := 0#32, R := 0#32 } })
  | op (i : Instr) (listed : i ∈ frameOps) (noTick : i ≠ .clockTick)
      (enabled : unitEnabled s.sh i = true) (runs : exec i s = .next t)

theorem microStep_of_execIf {c : Bool} {i : Instr} {s t : State} (h : execIf c i s = .next t)
    (listed : i ∈ frameOps) (noTick : i ≠ .clockTick) (enabled : c = true → unitEnabled s.sh i = true) :
    MicroStep s t := by
  cases c with
  | true => exact .op i listed noTick (enabled rfl) h
  | false =>
    cases h
    exact .skip rfl

theorem microStep_of_microBody {k : Nat} {s t : State} (h : microBody k s = .next t) : MicroStep s t := by
  unfold microBody at h
  split at h
  case h_1 => cases h; exact .tick rfl
  case h_2 => exact microStep_of_execIf h (by decide) (by decide) (by simp [unitEnabled])
  case h_3 => exact microStep_of_execIf h (by decide) (by decide) (by simp [unitEnabled])
  case h_4 => exact microStep_of_execIf h (by decide) (by decide) (by simp [unitEnabled])
  case h_5 => cases h; exact .clear rfl
  case h_6 => exact microStep_of_execIf h (by decide) (by decide) (by simp [unitEnabled])
  case h_7 => exact microStep_of_execIf h (by decide) (by decide) (by simp [unitEnabled])
  case h_8 => exact microStep_of_execIf h (by decide) (by decide) (by simp [unitEnabled])
  case h_9 => exact .op .mixDelay (by decide) (by decide) rfl h
  case h_10 => exact .op .bandFollow (by decide) (by decide) rfl h
  case h_11 => exact .op .loudnessAccum (by decide) (by decide) rfl h
  case h_12 => exact .op .frameWrite (by decide) (by decide) rfl h
  case h_13 => cases h; exact .skip rfl

/-- What every step of the micro-program keeps holds after a run of them. -/
theorem microProgram_induction {P : State → Prop} (hstep : ∀ s t, MicroStep s t → P s → P t) {n k : Nat}
    {s t : State} (h : microProgram n k s = .next t) (hs : P s) : P t := by
  induction n generalizing k s with
  | zero => exact hstep s t (microStep_of_microBody h) hs
  | succ n ih =>
    obtain ⟨u, hu, ht⟩ := andThen_eq_next _ _ _ h
    exact ih ht (hstep s u (microStep_of_microBody hu) hs)

theorem frameProgram_induction {P : State → Prop} (hstep : ∀ s t, MicroStep s t → P s → P t) {s t : State}
    (h : frameProgram s = .next t) (hs : P s) : P t :=
  microProgram_induction hstep ((frameProgram_eq_microProgram s).symm.trans h) hs

/-! ### What a frame keeps -/

/-- The parts of the state around the frame's own: no step of the micro-program writes them. -/
structure KeepsContext (s t : State) : Prop where
  reg : t.reg = s.reg
  cfg : t.cfg = s.cfg
  sh : t.sh = s.sh
  seq : t.seq = s.seq
  blk : t.blk = s.blk
  sched : t.sched = s.sched

theorem MicroStep.keepsContext {s t : State} (h : MicroStep s t) : KeepsContext s t := by
  cases h with
  | skip same => subst same; exact ⟨rfl, rfl, rfl, rfl, rfl, rfl⟩
  | tick ticks => subst ticks; exact ⟨rfl, rfl, rfl, rfl, rfl, rfl⟩
  | clear clears => subst clears; exact ⟨rfl, rfl, rfl, rfl, rfl, rfl⟩
  | op i listed _ _ runs =>
    have hk := exec_keepsGroups runs (not_constructs_of_mem_frameOps listed)
    obtain ⟨hseq, hblk⟩ := exec_sequencer (.inr listed) runs
    obtain ⟨hsh, -⟩ := hk.shadow (ne_of_mem_of_not_mem listed (by decide))
    have hreg := hk.reg (ne_of_mem_of_not_mem listed (by decide)) (ne_readOf_of_mem_frameOps listed)
      (ne_writeOf_of_mem_frameOps listed)
    exact ⟨hreg, hk.cfg, hsh, hseq, hblk, exec_sched i s t runs⟩

theorem KeepsContext.trans {s t u : State} (h : KeepsContext s t) (h' : KeepsContext t u) :
    KeepsContext s u :=
  ⟨h'.reg.trans h.reg, h'.cfg.trans h.cfg, h'.sh.trans h.sh, h'.seq.trans h.seq, h'.blk.trans h.blk,
    h'.sched.trans h.sched⟩

theorem frameProgram_keepsContext {s t : State} (h : frameProgram s = .next t) : KeepsContext s t :=
  frameProgram_induction (P := KeepsContext s) (fun _ _ hstep hs => hs.trans hstep.keepsContext) h
    ⟨rfl, rfl, rfl, rfl, rfl, rfl⟩

/-- A part of the state that the tick, the clearing and every micro-operation of the enabled units keep is
kept by a frame. -/
theorem frameProgram_keeps {α : Type} (view : State → α) {s t : State}
    (htick : ∀ u, view (clockTick { u with ev := { u.ev with percFire := false } }) = view u)
    (hclear : ∀ u, view { u with mix := { u.mix with L := 0#32, R := 0#32 } } = view u)
    (hops : ∀ i u v, i ∈ frameOps → unitEnabled s.sh i = true → exec i u = .next v → view v = view u)
    (h : frameProgram s = .next t) : view t = view s := by
  have hkeeps : t.sh = s.sh ∧ view t = view s := by
    refine frameProgram_induction (P := fun u => u.sh = s.sh ∧ view u = view s) ?_ h ⟨rfl, rfl⟩
    rintro u v hstep ⟨hsh, hview⟩
    refine ⟨hstep.keepsContext.sh.trans hsh, ?_⟩
    cases hstep with
    | skip same => rw [same, hview]
    | tick ticks => rw [ticks, htick, hview]
    | clear clears => rw [clears, hclear, hview]
    | op i listed _ enabled runs => rw [hops i u v listed (by rw [← hsh]; exact enabled) runs, hview]
  exact hkeeps.2

/-! ### Disabled units -/

/-- A micro-operation that runs is none of those of a disabled unit, nor one that no frame runs. -/
theorem notMem_of_disabled {sh : Shadow} {i : Instr} {l : List Instr} (listed : i ∈ frameOps)
    (enabled : unitEnabled sh i = true) (hl : ∀ j ∈ l, j ∈ frameOps → unitEnabled sh j = false) :
    i ∉ l :=
  fun hi => Bool.false_ne_true ((hl i hi listed).symm.trans enabled)

/-- A group of the state is kept by a frame in which the units that write it are disabled. -/
theorem frameProgram_keepsGroup {α : Type} (view : State → α) {l : List Instr} {s t : State}
    (hgroup : ∀ i u v, KeepsGroups i u v → i ∉ l → view v = view u)
    (htick : ∀ u, view (clockTick { u with ev := { u.ev with percFire := false } }) = view u)
    (hclear : ∀ u, view { u with mix := { u.mix with L := 0#32, R := 0#32 } } = view u)
    (hl : ∀ j ∈ l, j ∈ frameOps → unitEnabled s.sh j = false) (h : frameProgram s = .next t) :
    view t = view s :=
  frameProgram_keeps view htick hclear (fun _ _ _ listed enabled runs =>
    hgroup _ _ _ (exec_keepsGroups runs (not_constructs_of_mem_frameOps listed))
      (notMem_of_disabled listed enabled hl)) h

theorem frameProgram_arp_off {s t : State} (h : frameProgram s = .next t) (hoff : s.sh.arpEn = false) :
    t.arp = s.arp :=
  frameProgram_keepsGroup State.arp (fun _ _ _ hk => hk.arp) (fun _ => rfl) (fun _ => rfl)
    (by simp [frameOps, unitEnabled, hoff]) h

theorem frameProgram_walk_off {s t : State} (h : frameProgram s = .next t) (hoff : s.sh.arpEn = false) :
    t.walk = s.walk :=
  frameProgram_keepsGroup State.walk (fun _ _ _ hk => hk.walk) (fun _ => rfl) (fun _ => rfl)
    (by simp [frameOps, unitEnabled, hoff]) h

theorem frameProgram_pad_off {s t : State} (h : frameProgram s = .next t) (hoff : s.sh.padEn = false) :
    t.pad = s.pad :=
  frameProgram_keepsGroup State.pad (fun _ _ _ hk => hk.pad) (fun _ => rfl) (fun _ => rfl)
    (by simp [frameOps, unitEnabled, hoff]) h

theorem frameProgram_perc_off {s t : State} (h : frameProgram s = .next t) (hoff : s.sh.percEn = false) :
    t.perc = s.perc :=
  frameProgram_keepsGroup State.perc (fun _ _ _ hk => hk.perc) (fun _ => rfl) (fun _ => rfl)
    (by simp [frameOps, unitEnabled, hoff]) h

/-- With arpeggio and percussion disabled nothing in a frame draws (R107). -/
theorem frameProgram_rng_off {s t : State} (h : frameProgram s = .next t) (harp : s.sh.arpEn = false)
    (hperc : s.sh.percEn = false) : t.rng = s.rng := by
  refine frameProgram_keeps State.rng (fun _ => rfl) (fun _ => rfl) ?_ h
  intro i u v listed enabled runs
  refine exec_rng runs (not_constructs_of_mem_frameOps listed) ?_
  exact notMem_of_disabled listed enabled (by simp [frameOps, unitEnabled, harp, hperc])

/-- With the percussion disabled nothing sets percFire, which the first step clears (R41, R153). -/
theorem frameProgram_percFire_off {s t : State} (h : frameProgram s = .next t)
    (hoff : s.sh.percEn = false) : t.ev.percFire = false := by
  obtain ⟨u, hu, ht⟩ := andThen_eq_next _ _ _ ((frameProgram_eq_microProgram s).symm.trans h)
  have hstart : u.sh = s.sh ∧ u.ev.percFire = false := by
    cases hu
    exact ⟨rfl, rfl⟩
  refine (microProgram_induction (P := fun u => u.sh = s.sh ∧ u.ev.percFire = false) ?_ ht hstart).2
  rintro u v hstep ⟨hsh, hfire⟩
  refine ⟨hstep.keepsContext.sh.trans hsh, ?_⟩
  cases hstep with
  | skip same => rw [same, hfire]
  | tick ticks => rw [ticks]; rfl
  | clear clears => rw [clears]; exact hfire
  | op i listed _ enabled runs =>
    have hgate : i ≠ .percGate := by
      rintro rfl
      have henabled : u.sh.percEn = true := enabled
      rw [hsh, hoff] at henabled
      cases henabled
    rw [(exec_keepsGroups runs (not_constructs_of_mem_frameOps listed)).percFire hgate, hfire]

/-- With all units disabled a frame is the tick, the clearing, and the steps from MIX_DELAY on. -/
theorem frameProgram_all_off {s : State} (harp : s.sh.arpEn = false) (hpad : s.sh.padEn = false)
    (hperc : s.sh.percEn = false) :
    frameProgram s = microProgram 3 9 { clockTick { s with ev := { s.ev with percFire := false } } with
      mix := { s.mix with L := 0#32, R := 0#32 } } := by
  have htick (u : State) : exec .clockTick u = .next (clockTick u) := rfl
  simp only [frameProgram, htick, andThen_next, execIf, clockTick_sh, clockTick_mix, harp, hpad, hperc,
    Bool.and_false, Bool.false_eq_true, if_false]
  rfl

/-- The steps from MIX_DELAY on keep L and R, and feed the delay lines (R172). -/
theorem microProgram_output {s t : State} (h : microProgram 3 9 s = .next t) :
    t.mix.L = s.mix.L ∧ t.mix.R = s.mix.R ∧
      t.dly.L = fadd s.mix.L (fmul (delayGain s.sh.brightness) s.dly.L) ∧
      t.dly.R = fadd s.mix.R (fmul (delayGain s.sh.brightness) s.dly.R) := by
  obtain ⟨-, rfl⟩ := execFrameWrite_eq_next _ t h
  exact ⟨rfl, rfl, rfl, rfl⟩

/-- Settles O59. -/
theorem disabledUnitsAreFrozen : Obligations.DisabledUnitsAreFrozen := by
  intro s t h
  refine ⟨fun hoff => ⟨frameProgram_arp_off h hoff, frameProgram_walk_off h hoff⟩, frameProgram_pad_off h,
    fun hoff => ⟨frameProgram_perc_off h hoff, frameProgram_percFire_off h hoff⟩,
    frameProgram_rng_off h, fun harp hpad hperc => ?_⟩
  rw [frameProgram_all_off harp hpad hperc] at h
  exact microProgram_output h

end Sys2Proof.Machine

end

section
/-! Two frames side by side: what the registers, the position, the bands, the accumulators and the meters
cannot reach (R169, R173, R177), and the frame as the run of its twelve engine steps (R166, R170). -/

namespace Sys2Proof.Machine

/-! ### Outcomes side by side -/

/-- Two outcomes agree: next states that stand in a relation, or the same fault; neither is a refusal. -/
def Agree (R : State → State → Prop) (r r' : Result) : Prop :=
  match r, r' with
  | .next t, .next u => R t u
  | .fault e, .fault f => e = f
  | _, _ => False

/-- From related states an operation gives agreeing outcomes. -/
def Respects (R : State → State → Prop) (op : State → Result) : Prop :=
  ∀ s u, R s u → Agree R (op s) (op u)

theorem agree_andThen {R : State → State → Prop} {r r' : Result} {f : State → Result} (h : Agree R r r')
    (hf : Respects R f) : Agree R (andThen r f) (andThen r' f) := by
  cases r with
  | next t =>
    cases r' with
    | next u => exact hf t u h
    | fault e | refused e => exact h.elim
  | fault e =>
    cases r' with
    | fault f => exact h
    | next u | refused f => exact h.elim
  | refused e => exact h.elim

theorem respects_microProgram {R : State → State → Prop} (h : ∀ k, Respects R (microBody k)) (n k : Nat) :
    Respects R (microProgram n k) := by
  induction n generalizing k with
  | zero => exact h k
  | succ n ih => exact fun s u hsu => agree_andThen (h k s u hsu) (ih (k + 1))

theorem respects_frameProgram {R : State → State → Prop} (h : ∀ k, Respects R (microBody k)) :
    Respects R frameProgram := by
  intro s u hsu
  rw [frameProgram_eq_microProgram, frameProgram_eq_microProgram]
  exact respects_microProgram h 11 1 s u hsu

theorem agree_mapNext {R : State → State → Prop} {r : Result} {f : State → State}
    (hr : ∀ e, r ≠ .refused e) (h : ∀ t, r = .next t → R t (f t)) : Agree R r (mapNext f r) := by
  cases r with
  | next t => exact h t rfl
  | fault e => exact rfl
  | refused e => exact hr e rfl

/-- Where the relation gives the second state as a function of the first, agreement is an equation. -/
theorem eq_mapNext_of_agree {R : State → State → Prop} {r r' : Result} {f : State → State}
    (h : Agree R r r') (hf : ∀ t u, r = .next t → R t u → u = f t) : r' = mapNext f r := by
  cases r with
  | next t =>
    cases r' with
    | next u => exact congrArg _ (hf t u rfl h)
    | fault e | refused e => exact h.elim
  | fault e =>
    cases r' with
    | fault f =>
      obtain rfl : e = f := h
      rfl
    | next u | refused f => exact h.elim
  | refused e => exact h.elim

theorem noteFreq_ne_refused (v : VoiceId) (s : State) (e : Refusal) : noteFreq v s ≠ .refused e := by
  unfold noteFreq
  dsimp only
  split <;> exact nofun

theorem andThen_ne_refused {r : Result} {f : State → State} {e : Refusal} (hr : r ≠ .refused e) :
    (andThen r fun t => .next (f t)) ≠ .refused e := by
  cases r with
  | next t | fault f => exact nofun
  | refused f => exact hr

/-- The engine's micro-operations refuse nothing. -/
theorem exec_ne_refused {i : Instr} (hi : i ∈ frameOps) (s : State) (e : Refusal) :
    exec i s ≠ .refused e := by
  cases i with
  | arpTrigger => exact andThen_ne_refused (noteFreq_ne_refused .arp (walkerAdvance s) e)
  | padTrigger => exact andThen_ne_refused (noteFreq_ne_refused .pad s e)
  | frameWrite =>
    show execFrameWrite s ≠ _
    unfold execFrameWrite
    split <;> exact nofun
  | clockTick | percGate | voiceStepArp | voiceStepPad | percStep | mixDelay | bandFollow
  | loudnessAccum => exact nofun
  | _ => simp [frameOps] at hi

theorem microBody_ne_refused (k : Nat) (s : State) (e : Refusal) : microBody k s ≠ .refused e := by
  have hif {c : Bool} {i : Instr} (hi : i ∈ frameOps) : execIf c i s ≠ .refused e := by
    cases c with
    | true => exact exec_ne_refused hi s e
    | false => exact nofun
  unfold microBody
  split
  case h_2 | h_3 | h_4 | h_6 | h_7 | h_8 => exact hif (by decide)
  case h_12 => exact exec_ne_refused (by decide) s e
  all_goals exact nofun

/-! ### What the audio steps do not read -/

/-- The parts of the state that the micro-program neither reads nor writes before its step 10. -/
structure Surroundings where
  reg : Regs
  seq : Seq
  blk : Block
  band : Band
  acc : Acc
  meter : Meters

/-- A state's own surroundings. -/
def State.surroundings (s : State) : Surroundings := ⟨s.reg, s.seq, s.blk, s.band, s.acc, s.meter⟩

/-- A state in other surroundings. -/
def State.within (o : Surroundings) (s : State) : State :=
  { s with reg := o.reg, seq := o.seq, blk := o.blk, band := o.band, acc := o.acc, meter := o.meter }

theorem within_surroundings (s : State) : s.within s.surroundings = s := rfl

theorem surroundings_within (o : Surroundings) (s : State) : (s.within o).surroundings = o := rfl

section
variable (o : Surroundings) (s : State)

theorem walkerAdvance_within : walkerAdvance (s.within o) = (walkerAdvance s).within o := by
  unfold walkerAdvance
  rw [apply_ite (State.within o)]
  rfl

theorem percGate_within : percGate (s.within o) = (percGate s).within o := by
  unfold percGate
  dsimp only
  rw [apply_ite (State.within o)]
  rfl

theorem percStep_within : percStep (s.within o) = (percStep s).within o := by
  unfold percStep
  rw [apply_ite (State.within o)]
  rfl

theorem voiceStep_within (v : VoiceId) : voiceStep v (s.within o) = (voiceStep v s).within o := by
  cases v <;> rfl

theorem voiceTrigger_within (v : VoiceId) : voiceTrigger v (s.within o) = (voiceTrigger v s).within o := by
  cases v <;> rfl

theorem noteFreq_within (v : VoiceId) :
    noteFreq v (s.within o) = mapNext (State.within o) (noteFreq v s) := by
  rcases hfinite : isFinite (noteFrequency (noteNumber s v)) with _ | _
  · rw [noteFreq_of_not_finite hfinite]
    exact noteFreq_of_not_finite (s := s.within o) hfinite
  · rw [noteFreq_of_finite hfinite]
    refine (noteFreq_of_finite (s := s.within o) hfinite).trans ?_
    cases v <;> rfl

/-- A voice's note and then its trigger, in other surroundings. -/
theorem noteThenTrigger_within (v : VoiceId) :
    (andThen (noteFreq v (s.within o)) fun t => .next (voiceTrigger v t)) =
      mapNext (State.within o) (andThen (noteFreq v s) fun t => .next (voiceTrigger v t)) := by
  rw [noteFreq_within, mapNext, mapNext, andThen_assoc, andThen_assoc]
  simp only [andThen_next, voiceTrigger_within]

theorem exec_arpTrigger_within :
    exec .arpTrigger (s.within o) = mapNext (State.within o) (exec .arpTrigger s) := by
  have hexec (u : State) : exec .arpTrigger u =
      andThen (noteFreq .arp (walkerAdvance u)) fun t => .next (voiceTrigger .arp t) := rfl
  rw [hexec, hexec, walkerAdvance_within, noteThenTrigger_within]

theorem execIf_within {c : Bool} {i : Instr}
    (hi : exec i (s.within o) = mapNext (State.within o) (exec i s)) :
    execIf c i (s.within o) = mapNext (State.within o) (execIf c i s) := by
  cases c with
  | true => exact hi
  | false => rfl

/-- The steps before BAND_FOLLOW do the same in any surroundings. -/
theorem microBody_within {k : Nat} (hk : k ∉ [10, 11, 12]) :
    microBody k (s.within o) = mapNext (State.within o) (microBody k s) := by
  unfold microBody
  split
  case h_1 | h_5 | h_9 | h_13 => rfl
  case h_2 => exact execIf_within o s (exec_arpTrigger_within o s)
  case h_3 => exact execIf_within o s (congrArg Host.Outcome.next (percGate_within o s))
  case h_4 => exact execIf_within o s (noteThenTrigger_within o s .pad)
  case h_6 => exact execIf_within o s (congrArg Host.Outcome.next (voiceStep_within o s .arp))
  case h_7 => exact execIf_within o s (congrArg Host.Outcome.next (voiceStep_within o s .pad))
  case h_8 => exact execIf_within o s (congrArg Host.Outcome.next (percStep_within o s))
  case h_10 | h_11 | h_12 => simp at hk

end

/-- The steps before BAND_FOLLOW keep their surroundings: they do the same in the state's own. -/
theorem microBody_surroundings {k : Nat} (hk : k ∉ [10, 11, 12]) {s t : State}
    (h : microBody k s = .next t) : t.surroundings = s.surroundings := by
  have hown := microBody_within s.surroundings s hk
  rw [within_surroundings, h] at hown
  injection hown with hown
  rw [hown, surroundings_within]

/-- A relation between states in different surroundings is kept before BAND_FOLLOW, if it holds of all states
in those surroundings. -/
theorem respects_microBody_audio {R : State → State → Prop} {k : Nat} (hk : k ∉ [10, 11, 12])
    (hR : ∀ s u, R s u → u = s.within u.surroundings ∧
      ∀ t, t.surroundings = s.surroundings → t.cfg = s.cfg → R t (t.within u.surroundings)) :
    Respects R (microBody k) := by
  intro s u hsu
  obtain ⟨hu, hkeep⟩ := hR s u hsu
  rw [hu, microBody_within _ s hk]
  exact agree_mapNext (microBody_ne_refused k s) fun t ht =>
    hkeep t (microBody_surroundings hk ht) (microStep_of_microBody ht).keepsContext.cfg

/-! ### FRAME_WRITE in other surroundings -/

/-- FRAME_WRITE reads its words and its address alone. -/
theorem exec_frameWrite_congr {R : State → State → Prop} {s u : State} (haddr : frameAddr u = frameAddr s)
    (hcfg : u.cfg = s.cfg) (hmix : u.mix = s.mix) (hmem : u.mem = s.mem)
    (h : ∀ m, R { s with mem := m } { u with mem := m }) :
    Agree R (exec .frameWrite s) (exec .frameWrite u) := by
  have hwords : frameWords u = frameWords s := by rw [frameWords, frameWords, hcfg]
  have hframe : frameMem u = frameMem s := by
    simp only [frameMem, haddr, hcfg, hmix, hmem]
  by_cases hfit : frameAddr s + 4 * frameWords s ≤ memSize
  · rw [exec_frameWrite_of_fits hfit,
      exec_frameWrite_of_fits (s := u) (by rw [haddr, hwords]; exact hfit), hframe]
    exact h (frameMem s)
  · rw [exec_frameWrite_of_wraps (Nat.lt_of_not_le hfit),
      exec_frameWrite_of_wraps (s := u) (by rw [haddr, hwords]; exact Nat.lt_of_not_le hfit), haddr]
    exact rfl

/-- A relation that the three steps from BAND_FOLLOW on respect too is respected by every step. -/
theorem respects_microBody {R : State → State → Prop}
    (hR : ∀ s u, R s u → u = s.within u.surroundings ∧
      ∀ t, t.surroundings = s.surroundings → t.cfg = s.cfg → R t (t.within u.surroundings))
    (hband : Respects R (exec .bandFollow)) (hloudness : Respects R (exec .loudnessAccum))
    (hwrite : Respects R (exec .frameWrite)) (k : Nat) : Respects R (microBody k) := by
  by_cases hk : k ∈ [10, 11, 12]
  · simp only [List.mem_cons, List.not_mem_nil, or_false] at hk
    obtain rfl | rfl | rfl := hk
    · exact hband
    · exact hloudness
    · exact hwrite
  · exact respects_microBody_audio hk hR

/-! ### The bands, the accumulators and the meters -/

/-- The second state differs from the first in the band followers, the block accumulators and the meters
alone. -/
def DifferInMeters (s u : State) : Prop := u = { s with band := u.band, acc := u.acc, meter := u.meter }

theorem respects_differInMeters (k : Nat) : Respects DifferInMeters (microBody k) := by
  refine respects_microBody (fun s u hsu => ?_) (fun s u hsu => ?_) (fun s u hsu => ?_)
    (fun s u hsu => ?_) k
  all_goals
    rw [DifferInMeters] at hsu
    rw [hsu]
  · refine ⟨rfl, fun t ht _ => ?_⟩
    simp only [State.surroundings, Surroundings.mk.injEq] at ht
    obtain ⟨hreg, hseq, hblk, -⟩ := ht
    simp only [DifferInMeters, State.within, State.surroundings, ← hreg, ← hseq, ← hblk]
  · exact rfl
  · exact rfl
  · exact exec_frameWrite_congr rfl rfl rfl rfl fun _ => rfl

/-- Settles O58: every step of the micro-program respects the difference. -/
theorem metersNeverReachTheAudio : Obligations.MetersNeverReachTheAudio := by
  intro s b a m
  have hagree :=
    respects_frameProgram respects_differInMeters s { s with band := b, acc := a, meter := m } rfl
  revert hagree
  generalize frameProgram s = r, frameProgram { s with band := b, acc := a, meter := m } = r'
  cases r <;> cases r' <;> exact id

/-! ### The registers and the position -/

/-- A state with another register block, position and block parameters. -/
def repositioned (g : Regs) (q : Seq) (b : Block) (s : State) : State :=
  { s with reg := g, seq := q, blk := b }

/-- The second state is the first one repositioned, at the same frame address. -/
def DifferInPosition (g : Regs) (q : Seq) (b : Block) (s u : State) : Prop :=
  u = repositioned g q b s ∧ frameAddr u = frameAddr s

theorem respects_differInPosition (g : Regs) (q : Seq) (b : Block) (k : Nat) :
    Respects (DifferInPosition g q b) (microBody k) := by
  refine respects_microBody (fun s u hsu => ?_) (fun s u hsu => ?_) (fun s u hsu => ?_)
    (fun s u hsu => ?_) k
  all_goals obtain ⟨rfl, haddr⟩ := hsu
  · refine ⟨rfl, fun t ht hcfg => ?_⟩
    simp only [State.surroundings, Surroundings.mk.injEq] at ht
    obtain ⟨-, hseq, hblk, hband, hacc, hmeter⟩ := ht
    refine ⟨?_, ?_⟩
    · simp only [State.within, State.surroundings, repositioned, ← hband, ← hacc, ← hmeter]
    · simp only [frameAddr, State.within, State.surroundings, repositioned, hseq, hblk, hcfg] at haddr ⊢
      exact haddr
  · exact ⟨rfl, haddr⟩
  · exact ⟨rfl, haddr⟩
  · exact exec_frameWrite_congr haddr rfl rfl rfl fun _ => ⟨rfl, haddr⟩

/-- A step of the micro-program at another position of the same frame address. -/
theorem microBody_repositioned {g : Regs} {q : Seq} {b : Block} {s : State}
    (h : frameAddr (repositioned g q b s) = frameAddr s) (k : Nat) :
    microBody k (repositioned g q b s) = mapNext (repositioned g q b) (microBody k s) :=
  eq_mapNext_of_agree (respects_differInPosition g q b k s _ ⟨rfl, h⟩) fun _ _ _ hu => hu.1

/-- A frame at another position of the same frame address. -/
theorem frameProgram_repositioned {g : Regs} {q : Seq} {b : Block} {s : State}
    (h : frameAddr (repositioned g q b s) = frameAddr s) :
    frameProgram (repositioned g q b s) = mapNext (repositioned g q b) (frameProgram s) :=
  eq_mapNext_of_agree (respects_frameProgram (respects_differInPosition g q b) s _ ⟨rfl, h⟩)
    fun _ _ _ hu => hu.1

theorem mapNext_congr {f g : State → State} {r : Result} (h : ∀ t, r = .next t → f t = g t) :
    mapNext f r = mapNext g r := by
  cases r with
  | next t => exact congrArg _ (h t rfl)
  | fault e | refused e => rfl

/-- Settles O57. -/
theorem frameIndependentOfTheBlockPosition : Obligations.FrameIndependentOfTheBlockPosition := by
  intro s q b haddr
  refine (frameProgram_repositioned (g := s.reg) (q := q) (b := b) haddr).trans ?_
  refine mapNext_congr fun t ht => ?_
  rw [repositioned, ← (frameProgram_keepsContext ht).reg]

/-! ### The engine's steps of a frame -/

theorem microPrelude_of_ne {s : State} (h1 : s.seq.k ≠ 1) (h5 : s.seq.k ≠ 5) : microPrelude s = s := by
  unfold microPrelude
  split
  · exact absurd ‹_› h1
  · exact absurd ‹_› h5
  · rfl

section
variable {s : State} (hnext : engineNext s) (hphase : s.seq.phase = .frame)
include hnext hphase

/-- An engine step whose micro-operation has a condition. -/
theorem step_microOpIf {c : Bool} {op : BitVec 8} {i : Instr}
    (hop : microOp s = if c then some op else none) (hi : decodeUop op = .ok i)
    (hprelude : microPrelude (popped s) = popped s) :
    step s = mapNext (finish .nextMicroStep) (execIf c i (popped s)) := by
  cases c with
  | true => rw [step_microOp hnext hphase hop hi, hprelude]; rfl
  | false => rw [step_no_microOp hnext hphase hop, hprelude]; rfl

/-- An engine step of a frame is the micro-program's step at its position, and then the sequencer moves. -/
theorem step_frame : step s = mapNext (finish .nextMicroStep) (microBody s.seq.k (popped s)) := by
  have hprelude := microPrelude_of_ne (s := popped s)
  rw [popped_seq] at hprelude
  unfold microBody
  split
  case h_1 hk =>
    rw [step_microOp (i := .clockTick) hnext hphase (by simp only [microOp, hk]; rfl) rfl]
    simp only [microPrelude, popped_seq, hk]
  case h_5 hk =>
    rw [step_no_microOp hnext hphase (by simp only [microOp, hk])]
    simp only [microPrelude, popped_seq, hk]
    rfl
  case h_2 hk | h_3 hk | h_4 hk | h_6 hk | h_7 hk | h_8 hk =>
    exact step_microOpIf hnext hphase (by simp only [microOp, hk]; rfl) rfl
      (hprelude (by omega) (by omega))
  case h_9 hk | h_10 hk | h_11 hk | h_12 hk =>
    rw [step_microOp hnext hphase (by simp only [microOp, hk]; rfl) rfl, hprelude (by omega) (by omega)]
  case h_13 =>
    rw [step_no_microOp hnext hphase, hprelude (by assumption) (by assumption)]
    · rfl
    · unfold microOp
      split
      case h_12 => rfl
      all_goals contradiction

end

/-- RECONCILE reads no host register. -/
theorem exec_reconcile_with_reg (s : State) (g : Regs) :
    exec .reconcile { s with reg := g } = mapNext (fun t => { t with reg := g }) (exec .reconcile s) := by
  rw [reconcileRecomputesWhatChanged s, reconcileRecomputesWhatChanged { s with reg := g }]
  rfl

/-- A step of the micro-program reads no host register. -/
theorem microBody_with_reg (k : Nat) (s : State) (g : Regs) :
    microBody k { s with reg := g } = mapNext (fun t => { t with reg := g }) (microBody k s) := by
  refine (microBody_repositioned (g := g) (q := s.seq) (b := s.blk) rfl k).trans ?_
  refine mapNext_congr fun t ht => ?_
  have hkeep := (microStep_of_microBody ht).keepsContext
  rw [repositioned, ← hkeep.seq, ← hkeep.blk]

theorem mapNext_mapNext (f g : State → State) (r : Result) :
    mapNext f (mapNext g r) = mapNext (fun t => f (g t)) r := by
  cases r <;> rfl

/-- Settles O56: the registers are no part of what RECONCILE or a step of the micro-program reads. -/
theorem parametersDoNotReachARunningFrame : Obligations.ParametersDoNotReachARunningFrame := by
  intro s g hnext hphase
  have hpop : popped { s with reg := g } = { popped s with reg := g } := rfl
  obtain hphase | hphase := hphase
  · rw [step_reconcile (s := { s with reg := g }) hnext hphase, step_reconcile hnext hphase, hpop,
      exec_reconcile_with_reg, mapNext_mapNext, mapNext_mapNext]
    rfl
  · rw [step_frame (s := { s with reg := g }) hnext hphase, step_frame hnext hphase, hpop,
      microBody_with_reg, mapNext_mapNext, mapNext_mapNext]
    rfl

/-! ### The frame as its twelve steps -/

/-- The state at step k of the micro-program. -/
def atStep (k : Nat) (s : State) : State := { s with seq := { s.seq with k := k } }

theorem microBody_atStep (k j : Nat) (s : State) :
    microBody k (atStep j s) = mapNext (atStep j) (microBody k s) := by
  refine (microBody_repositioned (g := s.reg) (q := { s.seq with k := j }) (b := s.blk) rfl k).trans ?_
  refine mapNext_congr fun t ht => ?_
  have hkeep := (microStep_of_microBody ht).keepsContext
  rw [repositioned, ← hkeep.reg, ← hkeep.seq, ← hkeep.blk]
  rfl

/-- Before step 12 the sequencer moves to the next step. -/
theorem finish_atStep {k : Nat} (hk : k < 12) (s : State) :
    finish .nextMicroStep (atStep k s) = atStep (k + 1) s := by
  have hnext : nextMicro s.blk.N.toNat { s.seq with k := k } = { s.seq with k := k + 1 } := if_pos hk
  show { atStep k s with seq := nextMicro s.blk.N.toNat { s.seq with k := k } } = _
  rw [hnext]
  rfl

theorem step_atStep {s : State} (hsched : s.sched = []) (hphase : s.seq.phase = .frame) (k : Nat) :
    step (atStep k s) = mapNext (fun t => finish .nextMicroStep (atStep k t)) (microBody k s) := by
  have hsched' : (atStep k s).sched = [] := hsched
  rw [step_frame (s := atStep k s) (engineNext_of_sched_nil hsched') hphase, popped_of_sched_nil hsched']
  show mapNext _ (microBody k (atStep k s)) = _
  rw [microBody_atStep, mapNext_mapNext]

/-- Engine steps within a frame are steps of the micro-program, and then the sequencer moves. -/
theorem runSteps_microProgram {n k : Nat} (hk : k + n ≤ 12) {s : State} (hsched : s.sched = [])
    (hphase : s.seq.phase = .frame) :
    runSteps (n + 1) (atStep k s) =
      mapNext (fun t => finish .nextMicroStep (atStep (k + n) t)) (microProgram n k s) := by
  induction n generalizing k s with
  | zero => exact (andThen_next_right _).trans (step_atStep hsched hphase k)
  | succ n ih =>
    have hsplit : runSteps (n + 1 + 1) (atStep k s) = andThen (step (atStep k s)) (runSteps (n + 1)) := rfl
    have hprogram : microProgram (n + 1) k s = andThen (microBody k s) (microProgram n (k + 1)) := rfl
    rw [hsplit, hprogram, step_atStep hsched hphase]
    rcases hbody : microBody k s with t | e | e
    · have hkeep := (microStep_of_microBody hbody).keepsContext
      show runSteps (n + 1) (finish .nextMicroStep (atStep k t)) = _
      rw [finish_atStep (by omega), ih (by omega) (hkeep.sched.trans hsched)
        (by rw [hkeep.seq]; exact hphase), add_right_comm, add_assoc]
      rfl
    · rfl
    · rfl

/-- Settles O21: at k = 1 the twelve steps are `frameProgram`, which keeps the position for the last one to
move. -/
theorem framePhaseIsTheMicroProgram : Obligations.FramePhaseIsTheMicroProgram := by
  intro s hsched hphase hk
  have hstart : atStep 1 s = s := by rw [atStep, ← hk]
  have hrun := runSteps_microProgram (n := 11) (k := 1) le_rfl hsched hphase
  rw [hstart, ← frameProgram_eq_microProgram] at hrun
  refine hrun.trans (mapNext_congr fun t ht => ?_)
  have hkeep := frameProgram_keepsContext ht
  rw [← hkeep.seq, ← hkeep.blk]
  rfl

end Sys2Proof.Machine

end

section
/-! A bus command at the fetch: the refused command words and what their refusal records, and the words that
are read and written (R90, R187, R232, R234). -/

namespace Sys2Proof.Machine

theorem step_command {s : State} {cmd : BitVec 16} {d : Word}
    (hs : s.sched.head? = some (.code (.hb16 cmd d))) :
    step s = (fetchHB16 cmd d (popped s)).outcome := by
  obtain ⟨rest, hrest⟩ := List.head?_eq_some_iff.1 hs
  have hfetch : fetch s = fetchHB16 cmd d (popped s) := by
    simp only [fetch, fetchCode, popped, hrest, List.tail_cons]
  rw [step_eq_outcome, hfetch]

/-- A command word that is not well formed is refused with the cause of its first failing check. -/
theorem step_rejected {s : State} {cmd : BitVec 16} {d : Word}
    (hs : s.sched.head? = some (.code (.hb16 cmd d))) (h : (Code.hb16 cmd d).wellFormed = false) :
    step s = .next (refuseCommand cmd (rejectCause cmd) (popped s)) := by
  have hfetch : fetchHB16 cmd d (popped s) =
      .done (.next (refuseCommand cmd (rejectCause cmd) (popped s))) := by
    rw [fetchHB16, decodeHB16_rejects h]
  rw [step_command hs, hfetch]
  rfl

/-- What a refusal leaves: the error record, and 0 for a read (R187, R234). -/
theorem refuseCommand_eq (cmd : BitVec 16) (c : BusCause) (s : State) :
    refuseCommand cmd c s = { s with
      reg := { s.reg with ctrl := { s.reg.ctrl with
        buserr := true
        errcause := if s.reg.ctrl.buserr then s.reg.ctrl.errcause else c.code } }
      rdata := if cmd.getLsbD 15 then s.rdata else 0#32 } := by
  unfold refuseCommand
  rw [cmdW]
  cases cmd.getLsbD 15 <;> rfl

/-- A well-formed command word reads or writes the register at its address. -/
theorem step_accepted {s : State} {cmd : BitVec 16} {d : Word}
    (hs : s.sched.head? = some (.code (.hb16 cmd d))) (h : (Code.hb16 cmd d).wellFormed = true) :
    ∃ r : Reg, r.offset = cmdAddr cmd ∧
      step s = exec (if cmdW cmd then writeOf r d else readOf r) (popped s) := by
  obtain ⟨i, hi⟩ := (wellFormed_hb16_iff_decodes cmd d).1 h
  obtain ⟨-, r, hr, rfl⟩ := decodeHB16_eq_ok_iff.1 hi
  exact ⟨r, hr, step_code hs hi⟩

/-- Settles O14: the checks of a well-formed command word in R187's order, the cause being the first that
fails. -/
theorem refusedCommandsOnlyRecordTheCause : Obligations.RefusedCommandsOnlyRecordTheCause := by
  intro s cmd d hs refused
  have hwf := wellFormed_hb16_iff cmd d
  have hrejects (c : BusCause) (hcode : ¬ (cmdRsv cmd = 0#3 ∧ (cmdAddr cmd).extractLsb' 0 2 = 0#2 ∧
      (cmdAddr cmd).toNat ≤ 0x058)) (hcause : rejectCause cmd = c) : step s = .next (refused c.code) := by
    rw [step_rejected hs (Bool.eq_false_iff.2 (mt hwf.1 hcode)), hcause, refuseCommand_eq]
    rfl
  rw [← cmdAddr_extractLsb']
  split
  case isTrue hrsv => exact hrejects .reservedBits (fun ⟨h, _⟩ => hrsv h) (if_pos hrsv)
  case isFalse hrsv =>
    split
    case isTrue halign =>
      exact hrejects .misaligned (fun ⟨_, h, _⟩ => halign h) ((if_neg hrsv).trans (if_pos halign))
    case isFalse halign =>
      split
      case isTrue hmap =>
        exact hrejects .unmapped (fun ⟨_, _, h⟩ => hmap.not_ge h)
          ((if_neg hrsv).trans (if_neg halign))
      case isFalse hmap =>
        exact step_accepted hs (hwf.2 ⟨not_not.1 hrsv, not_not.1 halign, not_lt.1 hmap⟩)

end Sys2Proof.Machine

end

section
/-! The construction: when it answers, and what it leaves in the registers, the configuration and the meters
(R236, R253 to R255). -/

namespace Sys2Proof.Machine

theorem construct_of_firstNaN_none {s : State}
    (h : firstNaN s.reg.tempo s.reg.density s.reg.brightness s.reg.motion = none) :
    construct s = .next (constructTail (zeroDatapath s)) := by
  rw [construct, h]

@[simp] theorem constructTail_reg (s : State) :
    (constructTail s).reg = { s.reg with ctrl := { s.reg.ctrl with busy := false } } := by
  simp [constructTail]

@[simp] theorem constructTail_cfg (s : State) : (constructTail s).cfg = s.cfg := by simp [constructTail]

@[simp] theorem constructTail_meter (s : State) : (constructTail s).meter = s.meter := by
  simp [constructTail]

/-- The construction keeps the registers but the read-back of RENDER and BUSY. -/
theorem construct_reg {s t : State} (h : construct s = .next t) :
    t.reg = { s.reg with render := 0#32, ctrl := { s.reg.ctrl with busy := false } } := by
  obtain ⟨-, rfl⟩ := construct_eq_next s t h
  exact constructTail_reg _

theorem construct_cfg {s t : State} (h : construct s = .next t) :
    t.cfg = cfgOf (effectiveRate s.reg.cfgRate) (effectiveChan s.reg.cfgChan) := by
  obtain ⟨-, rfl⟩ := construct_eq_next s t h
  exact constructTail_cfg _

theorem construct_meter {s t : State} (h : construct s = .next t) :
    t.meter = ⟨0#32, 0#32, 0#32, 0#32, 0#32, 0#32, 0#32⟩ := by
  obtain ⟨-, rfl⟩ := construct_eq_next s t h
  exact constructTail_meter _

end Sys2Proof.Machine

end

section
/-! The host bus reads: the word that each register reads as (R188 to R220). -/

namespace Sys2Proof.Machine

/-- The word that a register reads as. -/
def readWord (r : Reg) (s : State) : Word :=
  match r with
  | .ctrl => ctrlWord s.reg.ctrl
  | .tempo => s.reg.tempo
  | .root => s.reg.root
  | .scale => fieldWord s.reg.scale
  | .density => s.reg.density
  | .brightness => s.reg.brightness
  | .motion => s.reg.motion
  | .seed => s.reg.seed
  | .enable => fieldWord s.reg.enable
  | .cfgRate => s.reg.cfgRate
  | .cfgChan => s.reg.cfgChan
  | .rate => s.cfg.rate
  | .chan => s.cfg.C
  | .bufBase => bufBaseWord s.reg.bufBase
  | .render => s.reg.render
  | .reset => 0#32
  | .meter0 => s.meter.m0
  | .meter1 => s.meter.m1
  | .meter2 => s.meter.m2
  | .meter3 => s.meter.m3
  | .meter4 => s.meter.m4
  | .meter5 => s.meter.m5
  | .meter6 => s.meter.m6

/-- A read answers the register's word, and nothing else changes. -/
theorem exec_readOf_eq (r : Reg) (s : State) :
    exec (readOf r) s = .next { s with rdata := readWord r s } := by
  cases r <;> rfl

theorem fieldWord_eq_ofNat {n : Nat} (f : BitVec n) : fieldWord f = BitVec.ofNat 32 f.toNat :=
  (BitVec.ofNat_toNat 32 f).symm

/-- Settles O1: the words of nine registers, the two fields zero-extended. -/
theorem parameterReadsReturnStoredWords : Obligations.ParameterReadsReturnStoredWords := by
  intro s
  simp only [← fieldWord_eq_ofNat]
  exact ⟨exec_readOf_eq .tempo s, exec_readOf_eq .root s, exec_readOf_eq .scale s,
    exec_readOf_eq .density s, exec_readOf_eq .brightness s, exec_readOf_eq .seed s,
    exec_readOf_eq .enable s, exec_readOf_eq .cfgRate s, exec_readOf_eq .cfgChan s⟩

/-- Settles O2: MOTION holds a value in [0, 1] by the invariant. -/
theorem motionReadIsBetweenZeroAndOne : Obligations.MotionReadIsBetweenZeroAndOne := by
  intro s hs
  have hmotion := hs.motion
  rw [inUnit, fofInt_one, Bool.and_eq_true] at hmotion
  exact ⟨exec_readOf_eq .motion s, hmotion⟩

/-- The CTRL word bit by bit (R188). -/
theorem ctrlWord_fields (c : Ctrl) :
    (ctrlWord c).getLsbD 0 = c.hostv ∧ (ctrlWord c).getLsbD 1 = c.busy ∧
      (ctrlWord c).getLsbD 2 = c.buserr ∧ (ctrlWord c).getLsbD 3 = false ∧
      (ctrlWord c).extractLsb' 4 3 = c.errcause ∧ (ctrlWord c).extractLsb' 7 25 = 0#25 := by
  obtain ⟨hostv, busy, buserr, errcause⟩ := c
  revert errcause
  cases hostv <;> cases busy <;> cases buserr <;> decide

/-- RD CTRL of a known CTRL word. -/
theorem exec_rdCtrl_of_ctrlWord {s : State} {w : Word} (h : ctrlWord s.reg.ctrl = w) :
    exec .rdCtrl s = .next { s with rdata := w } := by
  rw [← h]
  exact exec_readOf_eq .ctrl s

/-- Settles O3: the CTRL word's bits, and its value for two settings of the fields. -/
theorem ctrlReadPacksTheFields : Obligations.CtrlReadPacksTheFields :=
  ⟨fun s => ⟨_, exec_readOf_eq .ctrl s, ctrlWord_fields s.reg.ctrl⟩, exec_rdCtrl_of_ctrlWord rfl,
    fun _ hctrl => exec_rdCtrl_of_ctrlWord (congrArg ctrlWord hctrl)⟩

/-- The BUF_BASE word is its field above two zero bits (R36). -/
theorem bufBaseWord_fields (b : BitVec 30) :
    (bufBaseWord b).extractLsb' 2 30 = b ∧ (bufBaseWord b).extractLsb' 0 2 = 0#2 :=
  ⟨BitVec.extractLsb'_append_eq_left, BitVec.extractLsb'_append_eq_right⟩

/-- Settles O4: RATE, CHAN, RESET and the fields of BUF_BASE. -/
theorem configurationAndBlockReads : Obligations.ConfigurationAndBlockReads := fun s =>
  ⟨exec_readOf_eq .rate s, exec_readOf_eq .chan s, exec_readOf_eq .reset s, _, exec_readOf_eq .bufBase s,
    bufBaseWord_fields s.reg.bufBase⟩

theorem decode_readCommand (r : Reg) (d : Word) : decode (.hb16 (0#4 ++ r.offset) d) = .ok (readOf r) := by
  cases r <;> rfl

/-- Settles O6: the meters' words, their commands, and the address after the last register's. -/
theorem meterReadsReturnTheCells : Obligations.MeterReadsReturnTheCells :=
  ⟨fun s => ⟨exec_readOf_eq .meter0 s, exec_readOf_eq .meter1 s, exec_readOf_eq .meter2 s,
      exec_readOf_eq .meter3 s, exec_readOf_eq .meter4 s, exec_readOf_eq .meter5 s,
      exec_readOf_eq .meter6 s⟩,
    fun d => ⟨decode_readCommand .meter0 d, decode_readCommand .meter1 d, decode_readCommand .meter2 d,
      decode_readCommand .meter3 d, decode_readCommand .meter4 d, decode_readCommand .meter5 d,
      decode_readCommand .meter6 d, decodeHB16_rejects (d := d) rfl⟩⟩

end Sys2Proof.Machine

end

section
/-! The host bus writes: what each register stores, and the two writes that can be refused (R189 to R221). -/

namespace Sys2Proof.Machine

/-! ### The writes that store -/

/-- What a write stores in the register block: nothing for a read-only register. The writes of RENDER and RESET
are not of this kind (`execWrRender_cases`, `execWrReset_cases`). -/
def storedRegs (r : Reg) (d : Word) (g : Regs) : Regs :=
  match r with
  | .ctrl => { g with ctrl := ctrlAfterWrite g.ctrl d }
  | .tempo => { g with tempo := d }
  | .root => { g with root := d }
  | .scale => { g with scale := scaleField d }
  | .density => { g with density := d }
  | .brightness => { g with brightness := d }
  | .motion => { g with motion := clampUnit d }
  | .seed => { g with seed := d }
  | .enable => { g with enable := enableField d }
  | .cfgRate => { g with cfgRate := d }
  | .cfgChan => { g with cfgChan := d }
  | .bufBase => { g with bufBase := bufBaseField d }
  | .rate | .chan | .render | .reset | .meter0 | .meter1 | .meter2 | .meter3 | .meter4 | .meter5
  | .meter6 => g

/-- A write to a register other than RENDER and RESET stores, and nothing else changes; MOTION takes no
NaN. -/
theorem exec_writeOf_eq (r : Reg) (d : Word) (s : State) (hstart : r ∉ [.render, .reset] := by decide)
    (hmotion : r = .motion → isNaN d = false := by nofun) :
    exec (writeOf r d) s = .next { s with reg := storedRegs r d s.reg } := by
  cases r with
  | render | reset => exact absurd (by decide) hstart
  | motion => exact if_neg (Bool.eq_false_iff.1 (hmotion rfl))
  | _ => rfl

/-- A BUF_BASE field of a word, read back, is the word with its low two bits cleared (R215). -/
theorem bufBaseWord_bufBaseField (d : Word) : bufBaseWord (bufBaseField d) = d &&& 0xFFFFFFFC#32 := by
  have hsplit : d.extractLsb' 2 30 ++ d.extractLsb' 0 2 = d :=
    (BitVec.extractLsb'_append_extractLsb'_eq_extractLsb' (by rfl)).trans BitVec.extractLsb'_eq_self
  have hmask : 0xFFFFFFFC#32 = BitVec.allOnes 30 ++ 0#2 := rfl
  calc bufBaseWord (bufBaseField d)
    _ = (d.extractLsb' 2 30 &&& BitVec.allOnes 30) ++ (d.extractLsb' 0 2 &&& 0#2) := by
      rw [BitVec.and_allOnes, BitVec.and_zero]
      rfl
    _ = d &&& 0xFFFFFFFC#32 := by
      rw [hmask, ← BitVec.and_append, hsplit]

/-- RD BUF_BASE after a write of it. -/
theorem exec_rdBufBase_of_exec_wrBufBase {d : Word} {s t : State} (h : exec (.wrBufBase d) s = .next t) :
    exec .rdBufBase t = .next { t with rdata := d &&& 0xFFFFFFFC#32 } := by
  cases h
  rw [← bufBaseWord_bufBaseField]
  exact exec_readOf_eq .bufBase _

/-- Settles O7: what the three writes store, the read-back of BUF_BASE, and the examples. -/
theorem rootScaleAndBaseWrites : Obligations.RootScaleAndBaseWrites := by
  refine ⟨fun s d => ⟨exec_writeOf_eq .root d s, exec_writeOf_eq .scale d s, exec_writeOf_eq .bufBase d s,
    fun t => exec_rdBufBase_of_exec_wrBufBase⟩, fun s t h => ?_, fun s t h => ?_,
    fun s t => exec_rdBufBase_of_exec_wrBufBase⟩
  · cases h
    rfl
  · cases h
    rfl

/-- Settles O8: seven registers that take every word. -/
theorem parameterWritesStoreTheWord : Obligations.ParameterWritesStoreTheWord := fun s d =>
  ⟨exec_writeOf_eq .tempo d s, exec_writeOf_eq .density d s, exec_writeOf_eq .brightness d s,
    exec_writeOf_eq .seed d s, exec_writeOf_eq .enable d s, exec_writeOf_eq .cfgRate d s,
    exec_writeOf_eq .cfgChan d s⟩

/-- Settles O9: the nine read-only registers. -/
theorem readOnlyWritesChangeNothing : Obligations.ReadOnlyWritesChangeNothing := fun s d =>
  ⟨exec_writeOf_eq .rate d s, exec_writeOf_eq .chan d s, exec_writeOf_eq .meter0 d s,
    exec_writeOf_eq .meter1 d s, exec_writeOf_eq .meter2 d s, exec_writeOf_eq .meter3 d s,
    exec_writeOf_eq .meter4 d s, exec_writeOf_eq .meter5 d s, exec_writeOf_eq .meter6 d s⟩

/-- A write of CTRL with a 1 in bit 2 clears the error record, one with a 0 keeps it (R189). -/
theorem ctrlAfterWrite_error (c : Ctrl) (d : Word) :
    (d.getLsbD 2 = true → (ctrlAfterWrite c d).buserr = false ∧ (ctrlAfterWrite c d).errcause = 0#3) ∧
      (d.getLsbD 2 = false →
        (ctrlAfterWrite c d).buserr = c.buserr ∧ (ctrlAfterWrite c d).errcause = c.errcause) := by
  constructor
  all_goals
    intro h
    rw [ctrlAfterWrite, h]
    exact ⟨rfl, rfl⟩

/-- RD CTRL after a write of it. -/
theorem exec_rdCtrl_after_write {d w : Word} {s : State} (h : ctrlWord (ctrlAfterWrite s.reg.ctrl d) = w) :
    ∃ t : State, exec (.wrCtrl d) s = .next t ∧ exec .rdCtrl t = .next { t with rdata := w } :=
  ⟨_, exec_writeOf_eq .ctrl d s, exec_rdCtrl_of_ctrlWord h⟩

/-- Settles O10: the fields of CTRL after the write, and the words of the example. -/
theorem ctrlWriteSetsHostvAndClearsErrors : Obligations.CtrlWriteSetsHostvAndClearsErrors := by
  refine ⟨fun s d => ⟨_, exec_writeOf_eq .ctrl d s, rfl, rfl, ctrlAfterWrite_error s.reg.ctrl d⟩,
    fun s hctrl => ⟨?_, ?_, ?_⟩⟩
  · exact exec_rdCtrl_of_ctrlWord (by rw [hctrl]; rfl)
  · exact exec_rdCtrl_after_write (by rw [hctrl]; rfl)
  · exact exec_rdCtrl_after_write (by rw [hctrl]; rfl)

theorem exec_wrMotion_of_isNaN {d : Word} (h : isNaN d = true) (s : State) :
    exec (.wrMotion d) s = .fault (.paramNaN .motion) :=
  if_pos h

/-- WR MOTION of a value with a known clamp. -/
theorem exec_wrMotion_of_clamp {d w : Word} (hd : isNaN d = false) (h : clampUnit d = w) (s : State) :
    exec (.wrMotion d) s = .next { s with reg := { s.reg with motion := w } } := by
  rw [← h]
  exact exec_writeOf_eq .motion d s (hmotion := fun _ => hd)

/-- The clamp of R201 with its bounds as words. -/
theorem clampUnit_eq (d : Word) :
    clampUnit d = if flt d 0x00000000#32 then 0x00000000#32
      else if flt 0x3F800000#32 d then 0x3F800000#32 else d := by
  rw [clampUnit, fclamp, fofInt_one]

/-- Settles O11: the two cases of R201, and the clamp of its corner values. -/
theorem motionWriteClamps : Obligations.MotionWriteClamps := by
  refine ⟨fun s d => ⟨fun h => exec_wrMotion_of_isNaN h s,
    fun h => exec_wrMotion_of_clamp h (clampUnit_eq d) s⟩, fun s => ⟨?_, ?_, ?_, ?_⟩⟩
  all_goals exact exec_wrMotion_of_clamp (by decide) (by rw [clampUnit_eq]; decide) s

/-! ### The writes that start something -/

/-- Settles O12: the three cases of R217, which exclude each other. -/
theorem renderWriteStartsABlock : Obligations.RenderWriteStartsABlock := by
  intro s d
  obtain ⟨hbusy, h⟩ | ⟨hidle, hd, h⟩ | ⟨hidle, hd, h⟩ := execWrRender_cases d s
  · exact ⟨fun _ => h, by simp [hbusy], by simp [hbusy]⟩
  · exact ⟨by simp [hidle], fun _ _ => h, fun _ hne => absurd hd hne⟩
  · exact ⟨by simp [hidle], fun _ hz => absurd hz hd, fun _ _ => h⟩

/-- Settles O13: the two cases of R219, and what the construction leaves where no parameter is a NaN. -/
theorem resetWriteConstructs : Obligations.ResetWriteConstructs := by
  intro s d
  obtain ⟨hbusy, h⟩ | ⟨hidle, h⟩ := execWrReset_cases d s
  · exact ⟨fun _ => h, by simp [hbusy], by simp [hbusy]⟩
  · refine ⟨by simp [hidle], fun _ => h, fun _ ht hd hbb hm => ?_⟩
    have hnext := construct_of_firstNaN_none (firstNaN_eq_none_of_isNaN ht hd hbb hm)
    have hcfg := construct_cfg hnext
    refine ⟨_, h.trans hnext, hnext, congrArg Cfg.rate hcfg, congrArg Cfg.C hcfg, construct_meter hnext,
      construct_mem hnext, ?_⟩
    rw [construct_reg hnext, ← hidle]

/-- Settles O5: the read-back of RENDER after reset, a construction, a request of no frames, and a block. -/
theorem renderReadsTheLastCount : Obligations.RenderReadsTheLastCount := by
  refine ⟨exec_readOf_eq .render, rfl, fun s t h => congrArg Regs.render (construct_reg h),
    fun s hidle => ?_, fun s => ⟨_, exec_meterPublish s, ?_⟩⟩
  · obtain ⟨-, hzero, -⟩ := renderWriteStartsABlock s 0#32
    exact hzero hidle rfl
  · simp [publishMeters]

end Sys2Proof.Machine

end

section
/-! What an operation can stop with: it refuses nothing, and faults only under the condition of the fault's rule
(R235 to R238). -/

namespace Sys2Proof.Machine

/-! ### Outcomes that stop only with given faults -/

/-- The outcome is no refusal, and a fault only if it is one of `P`. -/
def StopsOnlyWith (P : Fault → Prop) (r : Result) : Prop :=
  match r with
  | .next _ => True
  | .fault e => P e
  | .refused _ => False

section
variable {P : Fault → Prop}

theorem stopsOnlyWith_next (t : State) : StopsOnlyWith P (.next t) := trivial

theorem StopsOnlyWith.of_fault {r : Result} {e : Fault} (h : StopsOnlyWith P r)
    (hr : r = .fault e) : P e := by
  rw [hr] at h
  exact h

theorem StopsOnlyWith.ne_refused {r : Result} (h : StopsOnlyWith P r) (e : Refusal) : r ≠ .refused e := by
  rintro rfl
  exact h

theorem stopsOnlyWith_mapNext {r : Result} {f : State → State} (h : StopsOnlyWith P r) :
    StopsOnlyWith P (mapNext f r) := by
  cases r with
  | next t => exact stopsOnlyWith_next (f t)
  | fault e => exact h
  | refused e => exact h

theorem stopsOnlyWith_execIf {c : Bool} {i : Instr} {s : State}
    (h : c = true → StopsOnlyWith P (exec i s)) :
    StopsOnlyWith P (execIf c i s) := by
  cases c with
  | true => exact h rfl
  | false => exact stopsOnlyWith_next s

/-! ### The operations that can fault -/

theorem stopsOnlyWith_noteFreq {v : VoiceId} {s : State}
    (h : isFinite (noteFrequency (noteNumber s v)) = false → P (.freqNotFinite v (noteNumber s v))) :
    StopsOnlyWith P (noteFreq v s) := by
  cases hf : isFinite (noteFrequency (noteNumber s v)) with
  | true => rw [noteFreq_of_finite hf]; exact stopsOnlyWith_next _
  | false => rw [noteFreq_of_not_finite hf]; exact h hf

theorem stopsOnlyWith_frameWrite {s : State}
    (h : memSize < frameAddr s + 4 * frameWords s → P (.bufferWrap (frameAddr s))) :
    StopsOnlyWith P (exec .frameWrite s) := by
  obtain hfits | hwraps := le_or_gt (frameAddr s + 4 * frameWords s) memSize
  · rw [exec_frameWrite_of_fits hfits]
    exact stopsOnlyWith_next _
  · rw [exec_frameWrite_of_wraps hwraps]
    exact h hwraps

theorem stopsOnlyWith_refreshApply {s : State}
    (h : ∀ p, firstNaN s.refr.t s.refr.d s.refr.bb s.refr.m = some p → P (.paramNaN p)) :
    StopsOnlyWith P (refreshApply s) := by
  cases hnan : firstNaN s.refr.t s.refr.d s.refr.bb s.refr.m with
  | none => rw [refreshApply_of_firstNaN_none hnan]; exact stopsOnlyWith_next _
  | some p => rw [refreshApply_of_firstNaN_some hnan]; exact h p hnan

theorem construct_of_firstNaN_some {s : State} {p : ParamReg}
    (h : firstNaN s.reg.tempo s.reg.density s.reg.brightness s.reg.motion = some p) :
    construct s = .fault (.paramNaN p) := by
  rw [construct, h]

theorem stopsOnlyWith_construct {s : State}
    (h : ∀ p, firstNaN s.reg.tempo s.reg.density s.reg.brightness s.reg.motion = some p →
      P (.paramNaN p)) :
    StopsOnlyWith P (construct s) := by
  cases hnan : firstNaN s.reg.tempo s.reg.density s.reg.brightness s.reg.motion with
  | none => rw [construct_of_firstNaN_none hnan]; exact stopsOnlyWith_next _
  | some p => rw [construct_of_firstNaN_some hnan]; exact h p hnan

/-- Of the writes, only those of MOTION and RESET can stop (R201, R219). -/
theorem stopsOnlyWith_writeOf {r : Reg} {d : Word} {s : State}
    (hmotion : r = .motion → isNaN d = true → P (.paramNaN .motion))
    (hreset : r = .reset → s.reg.ctrl.busy = false → ∀ p,
      firstNaN s.reg.tempo s.reg.density s.reg.brightness s.reg.motion = some p → P (.paramNaN p)) :
    StopsOnlyWith P (exec (writeOf r d) s) := by
  cases r with
  | motion =>
    cases hd : isNaN d with
    | true =>
      have hfault : exec (writeOf .motion d) s = .fault (.paramNaN .motion) := exec_wrMotion_of_isNaN hd s
      rw [hfault]
      exact hmotion rfl hd
    | false =>
      rw [exec_writeOf_eq .motion d s (hmotion := fun _ => hd)]
      exact stopsOnlyWith_next _
  | render =>
    show StopsOnlyWith P (execWrRender d s)
    obtain ⟨-, h⟩ | ⟨-, -, h⟩ | ⟨-, -, h⟩ := execWrRender_cases d s
    all_goals
      rw [h]
      exact stopsOnlyWith_next _
  | reset =>
    show StopsOnlyWith P (execWrReset d s)
    obtain ⟨-, h⟩ | ⟨hidle, h⟩ := execWrReset_cases d s
    · rw [h]
      exact stopsOnlyWith_next _
    · rw [h]
      exact stopsOnlyWith_construct (hreset rfl hidle)
  | _ => exact stopsOnlyWith_next _

/-- Of the micro-program's steps, only the triggers of the two voices and FRAME_WRITE can stop (R170). -/
theorem stopsOnlyWith_microBody {k : Nat} {s : State}
    (harp : k = 2 → s.ev.ev16 = true → s.sh.arpEn = true →
      isFinite (noteFrequency (noteNumber (walkerAdvance s) .arp)) = false →
      P (.freqNotFinite .arp (noteNumber (walkerAdvance s) .arp)))
    (hpad : k = 4 → s.ev.evPad = true → s.sh.padEn = true →
      isFinite (noteFrequency (noteNumber s .pad)) = false → P (.freqNotFinite .pad (noteNumber s .pad)))
    (hwrite : k = 12 → memSize < frameAddr s + 4 * frameWords s → P (.bufferWrap (frameAddr s))) :
    StopsOnlyWith P (microBody k s) := by
  unfold microBody
  split
  case h_2 =>
    refine stopsOnlyWith_execIf fun hc => ?_
    obtain ⟨hev, hen⟩ := Bool.and_eq_true_iff.1 hc
    exact stopsOnlyWith_mapNext (stopsOnlyWith_noteFreq (harp rfl hev hen))
  case h_4 =>
    refine stopsOnlyWith_execIf fun hc => ?_
    obtain ⟨hev, hen⟩ := Bool.and_eq_true_iff.1 hc
    exact stopsOnlyWith_mapNext (stopsOnlyWith_noteFreq (hpad rfl hev hen))
  case h_12 => exact stopsOnlyWith_frameWrite (hwrite rfl)
  case h_3 | h_6 | h_7 | h_8 => exact stopsOnlyWith_execIf fun _ => stopsOnlyWith_next _
  all_goals exact stopsOnlyWith_next _

/-- Of the refresh's steps, only the last can stop (R167; log 20). -/
theorem stopsOnlyWith_refreshStep {s : State} (hsub : s.seq.sub ≤ 8)
    (hlast : s.seq.sub = 8 → ∀ p, firstNaN s.refr.t s.refr.d s.refr.bb s.refr.m = some p →
      P (.paramNaN p)) :
    StopsOnlyWith P (refreshStep s) := by
  by_cases hgo : refreshGoesOn s.reg.ctrl.hostv s.seq.sub
  · rw [refreshStep_goesOn hgo]
    exact stopsOnlyWith_next _
  · obtain hlt | hend := hsub.lt_or_eq
    · obtain ⟨hzero, hhostv⟩ := Classical.not_imp.1 fun h => hgo ⟨hlt, h⟩
      rw [refreshStep_hostv_off hzero (Bool.eq_false_iff.2 hhostv)]
      exact stopsOnlyWith_next _
    · rw [refreshStep_last hend]
      exact stopsOnlyWith_mapNext (stopsOnlyWith_refreshApply (hlast hend))

end

end Sys2Proof.Machine

end

section
/-! What a step can stop with on the states of the invariant (R231, R235 to R238). -/

namespace Sys2Proof.Machine

/-- The stops of a step, each with its rule's condition (R236, R237, R238). -/
inductive StopCause (s : State) : Fault → Prop where
  | refreshNaN (next : engineNext s) (phase : s.seq.phase = .refresh) (last : s.seq.sub = 8) (p : ParamReg)
      (nan : firstNaN s.refr.t s.refr.d s.refr.bb s.refr.m = some p) : StopCause s (.paramNaN p)
  | motionNaN (d : Word) (word : s.sched.head? = some (.code (writeCode .motion d))) (nan : isNaN d = true) :
      StopCause s (.paramNaN .motion)
  | resetNaN (d : Word) (word : s.sched.head? = some (.code (writeCode .reset d)))
      (idle : s.reg.ctrl.busy = false) (p : ParamReg)
      (nan : firstNaN s.reg.tempo s.reg.density s.reg.brightness s.reg.motion = some p) :
      StopCause s (.paramNaN p)
  | arpFreq (next : engineNext s) (phase : s.seq.phase = .frame) (trigger : s.seq.k = 2)
      (event : s.ev.ev16 = true) (enabled : s.sh.arpEn = true)
      (freq : isFinite (noteFrequency (noteNumber (walkerAdvance s) .arp)) = false) :
      StopCause s (.freqNotFinite .arp (noteNumber (walkerAdvance s) .arp))
  | padFreq (next : engineNext s) (phase : s.seq.phase = .frame) (trigger : s.seq.k = 4)
      (event : s.ev.evPad = true) (enabled : s.sh.padEn = true)
      (freq : isFinite (noteFrequency (noteNumber s .pad)) = false) :
      StopCause s (.freqNotFinite .pad (noteNumber s .pad))
  | frameWrap (next : engineNext s) (phase : s.seq.phase = .frame) (write : s.seq.k = 12)
      (wraps : memSize < frameAddr s + 4 * frameWords s) : StopCause s (.bufferWrap (frameAddr s))

/-! ### Engine steps -/

theorem step_idle {s : State} (h : engineNext s) (hphase : s.seq.phase = .idle) :
    step s = .next (popped s) := by
  rw [step_engine h, fetchEngine, popped_seq, hphase]
  rfl

/-- The walker does not read the serial order still to come. -/
theorem walkerAdvance_popped (s : State) : walkerAdvance (popped s) = popped (walkerAdvance s) := by
  unfold walkerAdvance
  rw [apply_ite popped]
  rfl

/-- The note of the advanced walker, once the step's event is taken. -/
theorem noteNumber_walkerAdvance_popped (s : State) (v : VoiceId) :
    noteNumber (walkerAdvance (popped s)) v = noteNumber (walkerAdvance s) v := by
  rw [walkerAdvance_popped]
  rfl

theorem stopsOnlyWith_step_frame {s : State} (h : engineNext s) (hphase : s.seq.phase = .frame) :
    StopsOnlyWith (StopCause s) (step s) := by
  rw [step_frame h hphase]
  refine stopsOnlyWith_mapNext (stopsOnlyWith_microBody ?_ (.padFreq h hphase) (.frameWrap h hphase))
  rw [noteNumber_walkerAdvance_popped]
  exact .arpFreq h hphase

theorem stopsOnlyWith_step_engine {s : State} (hs : Inv s) (h : engineNext s) :
    StopsOnlyWith (StopCause s) (step s) := by
  cases hphase : s.seq.phase with
  | idle => rw [step_idle h hphase]; exact stopsOnlyWith_next _
  | refresh =>
    have hpos := hs.position
    rw [positionLegal, hphase] at hpos
    obtain ⟨-, -, -, hsub⟩ := hpos
    rw [step_refresh h hphase]
    exact stopsOnlyWith_refreshStep (s := popped s) hsub (.refreshNaN h hphase)
  | reconcile => rw [step_reconcile h hphase]; exact stopsOnlyWith_mapNext (stopsOnlyWith_next _)
  | frame => exact stopsOnlyWith_step_frame h hphase
  | publish => rw [step_publish h hphase]; exact stopsOnlyWith_next _

/-! ### Bus commands -/

/-- The code of a write is its register's. -/
theorem eq_writeCode_of_decodeHB16 {cmd : BitVec 16} {d : Word} {r : Reg}
    (h : decodeHB16 cmd d = .ok (writeOf r d)) : Code.hb16 cmd d = writeCode r d := by
  have hcode := encode_of_decodeHB16 h
  rw [encode_writeOf, writeCode] at hcode
  injection hcode with hcmd
  rw [writeCode, hcmd]

theorem stopsOnlyWith_step_command {s : State} {cmd : BitVec 16} {d : Word}
    (hs : s.sched.head? = some (.code (.hb16 cmd d))) : StopsOnlyWith (StopCause s) (step s) := by
  cases hwf : (Code.hb16 cmd d).wellFormed with
  | false => rw [step_rejected hs hwf]; exact stopsOnlyWith_next _
  | true =>
    obtain ⟨i, hi⟩ := (wellFormed_hb16_iff_decodes cmd d).1 hwf
    rw [step_code hs hi]
    obtain ⟨r, rfl | rfl⟩ := decodeHB16_eq_ok hi
    · obtain ⟨w, hw⟩ := exec_readOf r (popped s)
      rw [hw]
      exact stopsOnlyWith_next _
    · rw [eq_writeCode_of_decodeHB16 hi] at hs
      refine stopsOnlyWith_writeOf ?_ ?_
      · rintro rfl
        exact .motionNaN d hs
      · rintro rfl
        exact .resetNaN d hs

/-! ### Every step -/

theorem stopsOnlyWith_step {s : State} (hs : Inv s) : StopsOnlyWith (StopCause s) (step s) := by
  by_cases hnext : engineNext s
  · exact stopsOnlyWith_step_engine hs hnext
  · unfold engineNext at hnext
    split at hnext
    · exact absurd trivial hnext
    · exact absurd trivial hnext
    · rename_i c rest hsched
      cases c with
      | hb16 cmd d => exact stopsOnlyWith_step_command (List.head?_eq_some_iff.2 ⟨rest, hsched⟩)
      | uop op => exact absurd (by simp [hsched]) (hs.port op)

/-- Settles O25: the causes of a step's stop, by the fault that each gives. -/
theorem stopsComeOnlyFromTheNamedConditions : Obligations.StopsComeOnlyFromTheNamedConditions := by
  intro s hs
  have hstop := stopsOnlyWith_step hs
  refine ⟨hstop.ne_refused, fun p h => ?_, fun v n h => ?_, fun a h => ?_⟩
  · cases hstop.of_fault h with
    | refreshNaN next phase last _ nan => exact .inl ⟨next, phase, last, nan⟩
    | motionNaN d word nan => exact .inr (.inl ⟨d, word, nan, rfl⟩)
    | resetNaN d word idle _ nan => exact .inr (.inr ⟨d, word, idle, nan⟩)
  · cases hstop.of_fault h with
    | arpFreq next phase trigger event enabled freq =>
      exact ⟨next, phase, freq, .inl ⟨rfl, trigger, event, enabled, rfl⟩⟩
    | padFreq next phase trigger event enabled freq =>
      exact ⟨next, phase, freq, .inr ⟨rfl, trigger, event, enabled, rfl⟩⟩
  · cases hstop.of_fault h with
    | frameWrap next phase write wraps => exact ⟨next, phase, write, rfl, wraps⟩

end Sys2Proof.Machine

end

section
/-! The construction field by field, and the state after power-on reset as what the construction makes of the
registers' reset values (R251 to R255). -/

namespace Sys2Proof.Machine

/-! ### The construction sequence -/

/-- The draw of a construction: the first of the generator that the seed register initialises, from the
indices of the selected ROM row (R112, R255). -/
def constructDraw (g : Regs) : Word × Nat :=
  intInRange (rngInit g.seed) 0#32 (BitVec.ofNat 32 ((scaleRow g.scale).length - 1))

/-- Steps 4 to 8 of the construction, by the groups they write (R255). -/
theorem constructTail_eq (s : State) :
    constructTail s = { s with
      reg := { s.reg with ctrl := { s.reg.ctrl with busy := false } }
      sh := shadowOf (readParams s.reg)
      recon := { lastBpm := s.reg.tempo, lastScale := s.reg.scale }
      rng := { s.rng with s := (constructDraw s.reg).2 }
      tim := periodsOf s.cfg.fs s.reg.tempo
      walk := {
        tbl := scaleRow s.reg.scale
        len := (scaleRow s.reg.scale).length
        idx := (constructDraw s.reg).1.toInt.toNat } } := by
  simp only [constructTail, scaleRebuild_eq]
  rfl

theorem exec_construct_of_firstNaN_none {s : State}
    (h : firstNaN s.reg.tempo s.reg.density s.reg.brightness s.reg.motion = none) :
    exec .construct s = .next (constructTail (zeroDatapath s)) :=
  construct_of_firstNaN_none h

/-- Settles O52: the registers without a NaN, and the first NaN of several. -/
theorem constructionSequence : Obligations.ConstructionSequence := by
  intro s g unit rate fs preset row draw
  have hunit : unit = clampUnit := funext fun x => (clampUnit_eq x).symm
  refine ⟨fun ht hd hbb hm => ?_, fun hnan => ?_⟩
  · rw [exec_construct_of_firstNaN_none (firstNaN_eq_none_of_isNaN ht hd hbb hm), constructTail_eq,
      hunit]
    rfl
  · obtain ⟨p, hp, -⟩ := exists_firstNaN hnan
    exact ⟨p, construct_of_firstNaN_some hp⟩

/-! ### Power-on reset -/

theorem firstNaN_por :
    firstNaN Regs.por.tempo Regs.por.density Regs.por.brightness Regs.por.motion = none := by
  decide

/-- The register TEMPO holds 120.0 after reset (R251). -/
theorem por_tempo : Regs.por.tempo = fofInt 120 := by
  decide +kernel

/-- The constants that the construction derives from the reset values of CFG_RATE and CFG_CHAN. -/
theorem cfgOf_por : cfgOf (effectiveRate Regs.por.cfgRate) (effectiveChan Regs.por.cfgChan) = State.reset.cfg :=
  rfl

/-- The shadow of the reset values; all three unit parameters are in range, so no clamp moves one. -/
theorem shadowOf_por : shadowOf (readParams Regs.por) = State.reset.sh := by
  have hdensity : clampUnit Regs.por.density = fofRatio 35 100 := by decide +kernel
  have hbrightness : clampUnit Regs.por.brightness = fofRatio 1 2 := by decide +kernel
  have hmotion : clampUnit Regs.por.motion = 0#32 := by decide +kernel
  simp only [shadowOf, readParams, hdensity, hbrightness, hmotion, por_tempo]
  rfl

/-- The periods of the reset tempo at the reset rate are those of R123's example. -/
theorem periodsOf_por : periodsOf State.reset.cfg.fs Regs.por.tempo = State.reset.tim := by
  rw [por_tempo]
  exact periodsOf_reference

/-- Steps 1 to 3 of the construction of the reset values leave the reset state's own elements (R254). -/
theorem zeroDatapath_of_por {s : State} (h : s.reg = Regs.por) :
    zeroDatapath s = { State.reset with mem := s.mem, rdata := s.rdata, sched := s.sched } := by
  rw [zeroDatapath, h, cfgOf_por]
  rfl

/-- Steps 4 to 8 of the construction of the reset values, at the reset configuration (R252, R255). -/
theorem constructTail_of_por {s : State} (hreg : s.reg = Regs.por) (hcfg : s.cfg = State.reset.cfg) :
    constructTail s = { s with
      sh := State.reset.sh
      recon := State.reset.recon
      rng := { s.rng with s := State.reset.rng.s }
      tim := State.reset.tim
      walk := State.reset.walk } := by
  rw [constructTail_eq, hreg, hcfg, shadowOf_por, periodsOf_por, por_tempo]
  rfl

/-- Settles O53: the construction of the reset values gives each group of R252's table. -/
theorem powerOnResetConstructs : Obligations.PowerOnResetConstructs := by
  refine ⟨rfl, fun s hreg => ?_⟩
  have hnan : firstNaN s.reg.tempo s.reg.density s.reg.brightness s.reg.motion = none := by
    rw [hreg]
    exact firstNaN_por
  rw [exec_construct_of_firstNaN_none hnan, zeroDatapath_of_por hreg]
  exact congrArg Host.Outcome.next (constructTail_of_por rfl rfl)

/-- The walker after reset stands inside its table: its index is the draw of a rebuild (R58, R252). -/
theorem reset_walk_idx_lt : State.reset.walk.idx < State.reset.walk.len := by
  obtain ⟨-, -, hidx⟩ := scaleRebuild_walk 0#2 (seedRng 1#32 State.reset)
  rwa [scaleRebuild_eq] at hidx

/-- Settles O24: only the walker's index depends on an OPEN parameter, the draw from the table's indices. -/
theorem resetMeetsInvariant : Obligations.ResetMeetsInvariant where
  memory := Memory.reset_wf
  causeClear _ := rfl
  causeLegal := by decide
  motion := inUnit_zero
  rate := by decide
  chan := by decide
  fs := rfl
  shDensity := by decide +kernel
  shBrightness := by decide +kernel
  shMotion := inUnit_zero
  shBpm := by decide +kernel
  table := rfl
  length := rfl
  index := reset_walk_idx_lt
  busy := by decide
  base := rfl
  position := ⟨rfl, rfl, rfl⟩
  port := by simp [State.reset]

end Sys2Proof.Machine

end
